-- ==== Sys2Proof/Word.lean ====
section
/-! DEFINITION. The plain word types of the part. -/

namespace Sys2Proof

/-- Eight data bits of a character of the Lane Link, of the scanner line or of a record. -/
abbrev Byte := BitVec 8

/-- Lane time: a 32-bit count of milliseconds (00_scope.md, "Numbers and units"; R1). -/
abbrev LaneTime := BitVec 32

/-- The swipe decoder's free-running count of microseconds (R77). -/
abbrev MicroTime := BitVec 32

/-- The 384 dots of one dot line; column c is bit c (R137). -/
abbrev Dots := BitVec 384

/-- One row of a glyph: 12 dots, the left column in the most significant bit (R141, 13.5). -/
abbrev GlyphRow := BitVec 12

end Sys2Proof
end

