-- ==== Sys2Proof/Machine/Bytes.lean ====
section
/-! DEFINITION. Byte order, the 16-bit CRC and the roundings of the spec: plain arithmetic with no state. -/

namespace Sys2Proof.Machine

/-- A 16-bit value, high byte first (R190). -/
def be16 (w : BitVec 16) : List Byte := [w.extractLsb' 8 8, w.extractLsb' 0 8]

/-- A 32-bit value, high byte first (R190). -/
def be32 (w : BitVec 32) : List Byte :=
  [w.extractLsb' 24 8, w.extractLsb' 16 8, w.extractLsb' 8 8, w.extractLsb' 0 8]

/-- The 16-bit value of two characters, high byte first (R190). -/
def join16 (a b : Byte) : BitVec 16 := a ++ b

/-- The 32-bit value of four characters, high byte first (R190). -/
def join32 (a b c d : Byte) : BitVec 32 := (a ++ b) ++ (c ++ d)

/-- One byte holding a small count, an index or a code (R190). -/
def byteOf (n : Nat) : Byte := BitVec.ofNat 8 n

/-- A natural number as an unsigned field of 2 bytes (R190). -/
def field16 (n : Nat) : List Byte := be16 (BitVec.ofNat 16 n)

/-- A natural number as an unsigned field of 4 bytes (R190). -/
def field32 (n : Nat) : List Byte := be32 (BitVec.ofNat 32 n)

/-- A signed value as a two's complement field of 4 bytes (R190). -/
def signed32 (n : Int) : List Byte := be32 (BitVec.ofInt 32 n)

/-- A flag as one byte, 0 when clear and 1 when set (R190). -/
def flagByte (b : Bool) : Byte := if b then 1 else 0

/-- One step of the CRC on one bit: polynomial x^16 + x^12 + x^5 + 1, the register shifted left (R178). -/
def crcBit (crc : BitVec 16) : BitVec 16 :=
  if crc.msb then (crc <<< 1) ^^^ 0x1021#16 else crc <<< 1

/-- The CRC after one more byte, entered most significant bit first (R178). -/
def crcByte (crc : BitVec 16) (b : Byte) : BitVec 16 :=
  crcBit (crcBit (crcBit (crcBit (crcBit (crcBit (crcBit (crcBit (crc ^^^ (b ++ 0#8)))))))))

/-- The CRC-16 of the Lane Link and of the calibration record: initial value FFFF hex, no reflection of the result, no final
exclusive OR (R178, R28). -/
def crc16 (bytes : List Byte) : BitVec 16 := bytes.foldl crcByte 0xFFFF#16

/-- "Rounded to nearest", ties away from zero (00_scope.md, "Rounding"), of n / d for a positive d. -/
def roundDiv (n : Int) (d : Nat) : Int :=
  if n < 0 then -(((2 * n.natAbs + d) / (2 * d) : Nat) : Int) else ((2 * n.natAbs + d) / (2 * d) : Nat)

/-- Ceiling of n / d for naturals (00_scope.md, "Rounding"). -/
def ceilDiv (n d : Nat) : Nat := (n + d - 1) / d

/-- A value brought into the range lo to hi. -/
def clamp (lo hi n : Nat) : Nat := if n < lo then lo else if hi < n then hi else n

/-- A 32-bit counter that stops at 4,294,967,295 (R188). -/
def satInc (n : Nat) : Nat := if n < 4294967295 then n + 1 else 4294967295

/-- Whether a clock has reached a moment t: the difference modulo 2^32 is less than half the circle. -/
def reached (now t : BitVec 32) : Bool := (now - t).toNat < 2147483648

/-- Adds a value at the end of a window of at most n values; when it is full, the oldest leaves first (R6, R13, R31). -/
def windowPush {α : Type} (n : Nat) (w : List α) (a : α) : List α :=
  if w.length < n then w ++ [a] else w.drop (w.length + 1 - n) ++ [a]

/-- Whether every value is greater than the one before it. -/
def strictlyRising : List Nat → Bool
  | a :: b :: rest => a < b && strictlyRising (b :: rest)
  | _ => true

end Sys2Proof.Machine
end

