-- ==== Sys2Proof/Syntax.lean ====
section
/-! DEFINITION. The commands of the part: one constructor of `Instr` for each row of spec/opcode_table.json, and the frames
that carry the host's commands. -/

namespace Sys2Proof

/-- The level of the seal switch (R30). -/
inductive SealLevel where
  | opened | closed
deriving DecidableEq, Repr

/-- The level of the drawer's sense switch (R126). -/
inductive SenseLevel where
  | closed | opened
deriving DecidableEq, Repr

/-- The paper sensor (R137). -/
inductive PaperLevel where
  | present | out
deriving DecidableEq, Repr

/-- The paper-near-end sensor (R137). -/
inductive NearEndLevel where
  | normal | nearEnd
deriving DecidableEq, Repr

/-- The printer cover switch (R137). -/
inductive CoverLevel where
  | closed | opened
deriving DecidableEq, Repr

/-- The cutter home switch (R137). -/
inductive CutterLevel where
  | home | away
deriving DecidableEq, Repr

/-- The levels that the switch inputs of the part show at one moment (R30, R126, R137). -/
structure InputLevels where
  sealSwitch : SealLevel
  sense : SenseLevel
  paper : PaperLevel
  nearEnd : NearEndLevel
  cover : CoverLevel
  cutter : CutterLevel
deriving DecidableEq, Repr

/-- One debounced change of the paper, near-end or cover reading (R137). -/
inductive PrinterSwitch where
  | paper (level : PaperLevel)
  | nearEnd (level : NearEndLevel)
  | cover (level : CoverLevel)
deriving DecidableEq, Repr

/-- A command frame of the Lane Link, less its length and its CRC (R178): the node of its header, its code, its tag and its
payload. -/
structure Frame where
  node    : BitVec 3
  code    : Byte
  tag     : Byte
  payload : List Byte
deriving DecidableEq, Repr

/-- One constructor for each row of spec/opcode_table.json. A host command carries its tag and then its arguments at the widths
of R190; the rows of the lane hardware and of the timers carry what the hardware delivers. -/
inductive Instr where
  /-- POWER_ON (R16): the levels of the inputs, the supply voltage and the head temperature at that moment. -/
  | powerOn (levels : InputLevels) (volts : BitVec 16) (temp : Int)
  /-- LINK_BREAK (R189): the 250 ms mark of a break; the levels of the inputs at the reset it makes. -/
  | linkBreak (levels : InputLevels)
  /-- LINK_CHARACTER_RECEIVED (R178): the mark bit (set in a header), the data bits, and whether the stop bit read space. -/
  | linkCharacterReceived (mark : Bool) (data : Byte) (framingError : Bool)
  /-- UNKNOWN_COMMAND (R180): a frame whose node or code names no command. -/
  | unknownCommand (tag : Byte) (node : BitVec 3) (code : Byte) (payload : List Byte)
  /-- FRAME_TRANSMIT_END (R181); the levels of the inputs, for the reset that the end of a Reset's response makes. -/
  | frameTransmitEnd (levels : InputLevels)
  /-- REPORT_ADMISSION (R182). -/
  | reportAdmission
  /-- IDENTIFY (R187). -/
  | identify (tag : Byte)
  /-- GET_STATUS (R187). -/
  | getStatus (tag : Byte)
  /-- SET_PARAMETER (R184). -/
  | setParameter (tag number : Byte) (value : BitVec 32)
  /-- GET_PARAMETER (R184). -/
  | getParameter (tag number : Byte)
  /-- CLEAR_TABLE (R185). -/
  | clearTable (tag table : Byte)
  /-- LOAD_ENTRIES (R185): table, start index, count, and the characters of the entries (13.5). -/
  | loadEntries (tag table start count : Byte) (entries : List Byte)
  /-- CLOSE_TABLE (R186). -/
  | closeTable (tag table expected : Byte)
  /-- READ_ENTRY (R186). -/
  | readEntry (tag table index : Byte)
  /-- READ_COUNTERS (R188). -/
  | readCounters (tag group : Byte)
  /-- CLEAR_COUNTERS (R188). -/
  | clearCounters (tag group : Byte)
  /-- SET_INDICATOR (R174). -/
  | setIndicator (tag target value : Byte)
  /-- RESET (R189). -/
  | reset (tag kind : Byte)
  /-- SET_LINK_RATE (R177). -/
  | setLinkRate (tag rate : Byte)
  /-- HOLD_SCANNER (R75). -/
  | holdScanner (tag : Byte)
  /-- RELEASE_SCANNER (R75). -/
  | releaseScanner (tag : Byte)
  /-- HOLD_SWIPE (R82). -/
  | holdSwipe (tag : Byte)
  /-- RELEASE_SWIPE (R82). -/
  | releaseSwipe (tag : Byte)
  /-- SAMPLE_TRIGGER (R2): the signed 24-bit raw count. -/
  | sampleTrigger (raw : BitVec 24)
  /-- LIVE_REPORT (R25). -/
  | liveReport
  /-- STARVATION (R5). -/
  | starvation
  /-- CONVERTER_FAULT_ENTRY (R22). -/
  | converterFaultEntry
  /-- CONVERTER_FAULT_EXIT (R23). -/
  | converterFaultExit
  /-- WARMING_END (R17). -/
  | warmingEnd
  /-- ZERO_TRACKING (R20). -/
  | zeroTracking
  /-- SHOCK_HOLD_END (R4). -/
  | shockHoldEnd
  /-- SEAL_SWITCH_CHANGE (R30). -/
  | sealSwitchChange (level : SealLevel)
  /-- SET_ZERO (R19). -/
  | setZero (tag : Byte)
  /-- REQUEST_WEIGHT (R46). -/
  | requestWeight (tag tareClass : Byte) (sale : BitVec 16)
  /-- CANCEL_WEIGH_REQUEST (R52). -/
  | cancelWeighRequest (tag : Byte) (token : BitVec 16)
  /-- WEIGH_TIMEOUT (R50). -/
  | weighTimeout
  /-- SET_CAPACITY (R34): Max, d1, d2 and range1_max in grams. -/
  | setCapacity (tag : Byte) (max d1 d2 range1 : BitVec 32)
  /-- CAPTURE_CAL_ZERO (R35). -/
  | captureCalZero (tag : Byte)
  /-- CAPTURE_CAL_POINT (R36): the index and the mass in mg. -/
  | captureCalPoint (tag index : Byte) (mass : BitVec 32)
  /-- SET_CAL_POINT (R37): the index, the count and the mass in mg. -/
  | setCalPoint (tag index : Byte) (count mass : BitVec 32)
  /-- COMMIT_CALIBRATION (R38). -/
  | commitCalibration (tag : Byte)
  /-- CAL_ERASE_END (R38). -/
  | calEraseEnd
  /-- COMMIT_COMPLETE (R40). -/
  | commitComplete
  /-- DISCARD_CALIBRATION (R41). -/
  | discardCalibration (tag : Byte)
  /-- SCANNER_CHARACTER (R63): the data bits and whether the stop bit read 0. -/
  | scannerCharacter (data : Byte) (framingError : Bool)
  /-- SCAN_PROCESSING (R70). -/
  | scanProcessing
  /-- SWIPE_EDGE (R77). -/
  | swipeEdge
  /-- SWIPE_ARM (R78). -/
  | swipeArm
  /-- SWIPE_END (R80). -/
  | swipeEnd
  /-- CARD_PROCESSING (R95). -/
  | cardProcessing
  /-- OPEN_SALE (R110). -/
  | openSale (tag : Byte)
  /-- SET_DUE (R111). -/
  | setDue (tag : Byte) (sale : BitVec 16) (amount : BitVec 32)
  /-- BEGIN_TENDER (R112). -/
  | beginTender (tag : Byte) (sale : BitVec 16)
  /-- RESUME_SALE (R113). -/
  | resumeSale (tag : Byte) (sale : BitVec 16)
  /-- ADD_TENDER (R114): sale, kind, amount, change, and the card reference index with FF hex for none. -/
  | addTender (tag : Byte) (sale : BitVec 16) (kind : Byte) (amount change : BitVec 32) (ref : Byte)
  /-- WITHDRAW_TENDER (R115). -/
  | withdrawTender (tag : Byte) (sale : BitVec 16)
  /-- SETTLE (R116). -/
  | settle (tag : Byte) (sale : BitVec 16)
  /-- VOID_TOKEN (R119). -/
  | voidToken (tag : Byte) (sale token : BitVec 16)
  /-- ABORT_SALE (R121). -/
  | abortSale (tag : Byte) (sale : BitVec 16)
  /-- RELEASE_SALE (R122). -/
  | releaseSale (tag : Byte) (sale : BitVec 16)
  /-- GET_SALE (R123): slot, part, and the start position that the part TOKENS carries. -/
  | getSale (tag slot part : Byte) (start : Option Byte)
  /-- OPEN_DRAWER (R127). -/
  | openDrawer (tag : Byte) (sale : BitVec 16)
  /-- OPEN_DRAWER_NO_SALE (R128): Open Drawer with sale number 0. -/
  | openDrawerNoSale (tag : Byte)
  /-- GRANT (R160). -/
  | grant
  /-- GRANT_END (R159). -/
  | grantEnd
  /-- DRAWER_PULSE_END (R130). -/
  | drawerPulseEnd
  /-- CONFIRMATION_DEADLINE (R131). -/
  | confirmationDeadline
  /-- DRAWER_OVERDUE (R132). -/
  | drawerOverdue
  /-- DRAWER_SENSE_CHANGE (R133). -/
  | drawerSenseChange (level : SenseLevel)
  /-- DRAWER_SENSE_DEFERRED (R126). -/
  | drawerSenseDeferred
  /-- APPEND_LINES (R140): sale and the characters of the records (13.5). -/
  | appendLines (tag : Byte) (sale : BitVec 16) (records : List Byte)
  /-- CLOSE_RECEIPT (R150). -/
  | closeReceipt (tag : Byte) (sale : BitVec 16)
  /-- RESUME_PRINTING (R149). -/
  | resumePrinting (tag : Byte)
  /-- LINE_BEGIN (R146). -/
  | lineBegin
  /-- CUT_COMPLETE (R152). -/
  | cutComplete
  /-- PRINTER_SWITCH_CHANGE (R137). -/
  | printerSwitchChange (switch : PrinterSwitch)
  /-- THERMISTOR_READING (R148): whole degrees Celsius. -/
  | thermistorReading (temp : Int)
  /-- SUPPLY_READING (R162): mV. -/
  | supplyReading (volts : BitVec 16)
  /-- BEEP_END (R173). -/
  | beepEnd
  /-- BLINK_PHASE (R172). -/
  | blinkPhase
  /-- POWER_LOSS (R39). -/
  | powerLoss
  /-- CUTTER_SWITCH_CHANGE (R137, R152). -/
  | cutterSwitchChange (level : CutterLevel)
deriving DecidableEq, Repr

end Sys2Proof
end

