-- ==== Sys2Proof/WellFormed.lean ====
section
/-! DEFINITION. When a command is one that the lane can deliver: its payload fits a frame, and it is spelt by its own row. -/

namespace Sys2Proof

/-- The codes that name a command of a node (13.2): the highest code of each node, counted from 01; nodes 2, 3 and 7 have none. -/
def lastCode (node : BitVec 3) : Nat :=
  match node.toNat with
  | 0 => 17
  | 1 => 9
  | 4 => 11
  | 5 => 1
  | 6 => 3
  | _ => 0

/-- Whether the node and the code name a command (R180, first test; 13.2). -/
def namesCommand (node : BitVec 3) (code : Byte) : Bool :=
  1 ≤ code.toNat && code.toNat ≤ lastCode node

/-- The code of the Get Sale part TOKENS (13.3), which alone carries a start position (R123). -/
def tokensPart : Byte := 2

/-- Well-formedness of a command: a payload of at most 240 characters (R178), an unknown command that names none (R180), a start
position exactly in the part TOKENS (R123), and the sale number 0 of Open Drawer left to its own row (R127, R128). -/
def Instr.wellFormed : Instr → Bool
  | .unknownCommand _ node code payload => !namesCommand node code && payload.length ≤ 240
  | .loadEntries _ _ _ _ entries => entries.length ≤ 237
  | .appendLines _ _ records => records.length ≤ 238
  | .getSale _ _ part start => start.isSome == (part == tokensPart)
  | .openDrawer _ sale => sale != 0
  | _ => true

/-- Whether the command is a host command, that is, arrives in a frame of the Lane Link (13.2; UNKNOWN_COMMAND too). -/
def Instr.isHostCommand : Instr → Bool
  | .unknownCommand .. | .identify .. | .getStatus .. | .setParameter .. | .getParameter .. | .clearTable ..
  | .loadEntries .. | .closeTable .. | .readEntry .. | .readCounters .. | .clearCounters .. | .setIndicator ..
  | .reset .. | .setLinkRate .. | .holdScanner .. | .releaseScanner .. | .holdSwipe .. | .releaseSwipe ..
  | .setZero .. | .requestWeight .. | .cancelWeighRequest .. | .setCapacity .. | .captureCalZero ..
  | .captureCalPoint .. | .setCalPoint .. | .commitCalibration .. | .discardCalibration ..
  | .openSale .. | .setDue .. | .beginTender .. | .resumeSale .. | .addTender .. | .withdrawTender .. | .settle ..
  | .voidToken .. | .abortSale .. | .releaseSale .. | .getSale .. | .openDrawer .. | .openDrawerNoSale ..
  | .appendLines .. | .closeReceipt .. | .resumePrinting .. => true
  | .powerOn .. | .linkBreak .. | .linkCharacterReceived .. | .frameTransmitEnd .. | .reportAdmission
  | .sampleTrigger .. | .liveReport | .starvation | .converterFaultEntry | .converterFaultExit | .warmingEnd
  | .zeroTracking | .shockHoldEnd | .sealSwitchChange .. | .weighTimeout | .calEraseEnd | .commitComplete
  | .scannerCharacter .. | .scanProcessing | .swipeEdge | .swipeArm | .swipeEnd | .cardProcessing
  | .grant | .grantEnd | .drawerPulseEnd | .confirmationDeadline | .drawerOverdue | .drawerSenseChange ..
  | .drawerSenseDeferred | .lineBegin | .cutComplete | .printerSwitchChange .. | .thermistorReading ..
  | .supplyReading .. | .beepEnd | .blinkPhase | .powerLoss | .cutterSwitchChange .. => false

end Sys2Proof
end

