-- ==== Sys2Proof/Decode.lean ====
section
/-! DEFINITION. Reading a command frame as a command, and writing a command as its frame (R180, R190, 13.2). No row of
spec/opcode_table.json gives bits, so no word spells a command by itself. -/

namespace Sys2Proof

open Machine

/-- The command that a word spells by the table's bits: the table gives no row any bits, so there is none. -/
def decodeTableWord (_nbits _w : Nat) : Option Instr := none

/-- What dispatch reads in a complete frame (R180): a command with its arguments; a command whose payload has not a length that
the command takes; or no command at all. -/
inductive Decoded where
  | command (i : Instr)
  | badLength
  | unknown
deriving DecidableEq, Repr

/-- A command that carries no argument. -/
def takeNone (i : Instr) : List Byte → Decoded
  | [] => .command i
  | _ => .badLength

/-- A command that carries one byte. -/
def takeByte (mk : Byte → Instr) : List Byte → Decoded
  | [a] => .command (mk a)
  | _ => .badLength

/-- A command that carries two bytes. -/
def takeBytes (mk : Byte → Byte → Instr) : List Byte → Decoded
  | [a, b] => .command (mk a b)
  | _ => .badLength

/-- A command that carries a sale or token number. -/
def takeNumber (mk : BitVec 16 → Instr) : List Byte → Decoded
  | [a, b] => .command (mk (join16 a b))
  | _ => .badLength

/-- Set Parameter: number and value (R184). -/
def takeParameter (tag : Byte) : List Byte → Decoded
  | [n, a, b, c, d] => .command (.setParameter tag n (join32 a b c d))
  | _ => .badLength

/-- Load Entries: table, start, count, then the entries, whose length the command's own tests check (R185, 13.5). -/
def takeLoad (tag : Byte) : List Byte → Decoded
  | t :: s :: c :: rest => .command (.loadEntries tag t s c rest)
  | _ => .badLength

/-- Request Weight: tare class and sale number (R46). -/
def takeRequest (tag : Byte) : List Byte → Decoded
  | [t, a, b] => .command (.requestWeight tag t (join16 a b))
  | _ => .badLength

/-- Set Capacity: four masses in grams (R34). -/
def takeCapacity (tag : Byte) : List Byte → Decoded
  | [a, b, c, d, e, f, g, h, i, j, k, l, m, n, o, p] =>
    .command (.setCapacity tag (join32 a b c d) (join32 e f g h) (join32 i j k l) (join32 m n o p))
  | _ => .badLength

/-- Capture Cal Point: index and mass (R36). -/
def takePoint (tag : Byte) : List Byte → Decoded
  | [i, a, b, c, d] => .command (.captureCalPoint tag i (join32 a b c d))
  | _ => .badLength

/-- Set Cal Point: index, count and mass (R37). -/
def takeSetPoint (tag : Byte) : List Byte → Decoded
  | [i, a, b, c, d, e, f, g, h] => .command (.setCalPoint tag i (join32 a b c d) (join32 e f g h))
  | _ => .badLength

/-- Set Due: sale number and amount (R111). -/
def takeDue (tag : Byte) : List Byte → Decoded
  | [s, t, a, b, c, d] => .command (.setDue tag (join16 s t) (join32 a b c d))
  | _ => .badLength

/-- Add Tender: sale number, kind, amount, change and the optional reference index in its place (R114, R190). -/
def takeTender (tag : Byte) : List Byte → Decoded
  | [s, t, k, a, b, c, d, e, f, g, h, r] =>
    .command (.addTender tag (join16 s t) k (join32 a b c d) (join32 e f g h) r)
  | _ => .badLength

/-- Void Token: sale number and token number (R119). -/
def takeVoid (tag : Byte) : List Byte → Decoded
  | [a, b, c, d] => .command (.voidToken tag (join16 a b) (join16 c d))
  | _ => .badLength

/-- Get Sale: slot, part, and for the part TOKENS a start position (R123). -/
def takeGetSale (tag : Byte) : List Byte → Decoded
  | [s, p] => if p = tokensPart then .badLength else .command (.getSale tag s p none)
  | [s, p, n] => if p = tokensPart then .command (.getSale tag s p (some n)) else .badLength
  | _ => .badLength

/-- Open Drawer: sale number, 0 for a no-sale opening (R127, R128). -/
def takeDrawer (tag : Byte) : List Byte → Decoded
  | [a, b] =>
    if join16 a b = 0 then .command (.openDrawerNoSale tag) else .command (.openDrawer tag (join16 a b))
  | _ => .badLength

/-- Append Lines: sale number, then the records, which the command's own tests read (R140, 13.5). -/
def takeLines (tag : Byte) : List Byte → Decoded
  | a :: b :: rest => .command (.appendLines tag (join16 a b) rest)
  | _ => .badLength

/-- The commands of node 0 in the order of their codes (13.2). -/
def decodeManagement (code : Nat) (tag : Byte) (p : List Byte) : Decoded :=
  match code with
  | 1 => takeNone (.identify tag) p
  | 2 => takeNone (.getStatus tag) p
  | 3 => takeParameter tag p
  | 4 => takeByte (.getParameter tag) p
  | 5 => takeByte (.clearTable tag) p
  | 6 => takeLoad tag p
  | 7 => takeBytes (.closeTable tag) p
  | 8 => takeBytes (.readEntry tag) p
  | 9 => takeByte (.readCounters tag) p
  | 10 => takeByte (.clearCounters tag) p
  | 11 => takeBytes (.setIndicator tag) p
  | 12 => takeByte (.reset tag) p
  | 13 => takeByte (.setLinkRate tag) p
  | 14 => takeNone (.holdScanner tag) p
  | 15 => takeNone (.releaseScanner tag) p
  | 16 => takeNone (.holdSwipe tag) p
  | 17 => takeNone (.releaseSwipe tag) p
  | _ => .unknown

/-- The commands of node 1 (13.2). -/
def decodeScale (code : Nat) (tag : Byte) (p : List Byte) : Decoded :=
  match code with
  | 1 => takeNone (.setZero tag) p
  | 2 => takeRequest tag p
  | 3 => takeNumber (.cancelWeighRequest tag) p
  | 4 => takeCapacity tag p
  | 5 => takeNone (.captureCalZero tag) p
  | 6 => takePoint tag p
  | 7 => takeSetPoint tag p
  | 8 => takeNone (.commitCalibration tag) p
  | 9 => takeNone (.discardCalibration tag) p
  | _ => .unknown

/-- The commands of node 4 (13.2). -/
def decodeSale (code : Nat) (tag : Byte) (p : List Byte) : Decoded :=
  match code with
  | 1 => takeNone (.openSale tag) p
  | 2 => takeDue tag p
  | 3 => takeNumber (.beginTender tag) p
  | 4 => takeNumber (.resumeSale tag) p
  | 5 => takeTender tag p
  | 6 => takeNumber (.withdrawTender tag) p
  | 7 => takeNumber (.settle tag) p
  | 8 => takeVoid tag p
  | 9 => takeNumber (.abortSale tag) p
  | 10 => takeNumber (.releaseSale tag) p
  | 11 => takeGetSale tag p
  | _ => .unknown

/-- The command of node 5 (13.2). -/
def decodeDrawer (code : Nat) (tag : Byte) (p : List Byte) : Decoded :=
  match code with
  | 1 => takeDrawer tag p
  | _ => .unknown

/-- The commands of node 6 (13.2). -/
def decodePrinter (code : Nat) (tag : Byte) (p : List Byte) : Decoded :=
  match code with
  | 1 => takeLines tag p
  | 2 => takeNumber (.closeReceipt tag) p
  | 3 => takeNone (.resumePrinting tag) p
  | _ => .unknown

/-- Reading a frame (R180): the node and the code first, then the length of the payload. -/
def decodeFrame (f : Frame) : Decoded :=
  match f.node.toNat with
  | 0 => decodeManagement f.code.toNat f.tag f.payload
  | 1 => decodeScale f.code.toNat f.tag f.payload
  | 4 => decodeSale f.code.toNat f.tag f.payload
  | 5 => decodeDrawer f.code.toNat f.tag f.payload
  | 6 => decodePrinter f.code.toNat f.tag f.payload
  | _ => .unknown

/-- The frame of a host command: its node and code by 13.2, its arguments in the order of its rule (R190). A row that is no host
command has no frame; code 00 hex names no command (R191) and stands for it. -/
def encodeFrame : Instr → Frame
  | .unknownCommand tag node code payload => ⟨node, code, tag, payload⟩
  | .identify tag => ⟨0, 1, tag, []⟩
  | .getStatus tag => ⟨0, 2, tag, []⟩
  | .setParameter tag number value => ⟨0, 3, tag, number :: be32 value⟩
  | .getParameter tag number => ⟨0, 4, tag, [number]⟩
  | .clearTable tag table => ⟨0, 5, tag, [table]⟩
  | .loadEntries tag table start count entries => ⟨0, 6, tag, table :: start :: count :: entries⟩
  | .closeTable tag table expected => ⟨0, 7, tag, [table, expected]⟩
  | .readEntry tag table index => ⟨0, 8, tag, [table, index]⟩
  | .readCounters tag group => ⟨0, 9, tag, [group]⟩
  | .clearCounters tag group => ⟨0, 10, tag, [group]⟩
  | .setIndicator tag target value => ⟨0, 11, tag, [target, value]⟩
  | .reset tag kind => ⟨0, 12, tag, [kind]⟩
  | .setLinkRate tag rate => ⟨0, 13, tag, [rate]⟩
  | .holdScanner tag => ⟨0, 14, tag, []⟩
  | .releaseScanner tag => ⟨0, 15, tag, []⟩
  | .holdSwipe tag => ⟨0, 16, tag, []⟩
  | .releaseSwipe tag => ⟨0, 17, tag, []⟩
  | .setZero tag => ⟨1, 1, tag, []⟩
  | .requestWeight tag tareClass sale => ⟨1, 2, tag, tareClass :: be16 sale⟩
  | .cancelWeighRequest tag token => ⟨1, 3, tag, be16 token⟩
  | .setCapacity tag max d1 d2 range1 => ⟨1, 4, tag, be32 max ++ be32 d1 ++ be32 d2 ++ be32 range1⟩
  | .captureCalZero tag => ⟨1, 5, tag, []⟩
  | .captureCalPoint tag index mass => ⟨1, 6, tag, index :: be32 mass⟩
  | .setCalPoint tag index count mass => ⟨1, 7, tag, index :: (be32 count ++ be32 mass)⟩
  | .commitCalibration tag => ⟨1, 8, tag, []⟩
  | .discardCalibration tag => ⟨1, 9, tag, []⟩
  | .openSale tag => ⟨4, 1, tag, []⟩
  | .setDue tag sale amount => ⟨4, 2, tag, be16 sale ++ be32 amount⟩
  | .beginTender tag sale => ⟨4, 3, tag, be16 sale⟩
  | .resumeSale tag sale => ⟨4, 4, tag, be16 sale⟩
  | .addTender tag sale kind amount change ref =>
    ⟨4, 5, tag, be16 sale ++ kind :: (be32 amount ++ be32 change ++ [ref])⟩
  | .withdrawTender tag sale => ⟨4, 6, tag, be16 sale⟩
  | .settle tag sale => ⟨4, 7, tag, be16 sale⟩
  | .voidToken tag sale token => ⟨4, 8, tag, be16 sale ++ be16 token⟩
  | .abortSale tag sale => ⟨4, 9, tag, be16 sale⟩
  | .releaseSale tag sale => ⟨4, 10, tag, be16 sale⟩
  | .getSale tag slot part none => ⟨4, 11, tag, [slot, part]⟩
  | .getSale tag slot part (some start) => ⟨4, 11, tag, [slot, part, start]⟩
  | .openDrawer tag sale => ⟨5, 1, tag, be16 sale⟩
  | .openDrawerNoSale tag => ⟨5, 1, tag, be16 0⟩
  | .appendLines tag sale records => ⟨6, 1, tag, be16 sale ++ records⟩
  | .closeReceipt tag sale => ⟨6, 2, tag, be16 sale⟩
  | .resumePrinting tag => ⟨6, 3, tag, []⟩
  | _ => ⟨7, 0, 0, []⟩

end Sys2Proof
end

