-- ==== Sys2Proof/Machine/State.lean ====
section
/-! DEFINITION. The whole state of the part as plain data, block by block as 00_scope.md gives the blocks, and the state right
after power-on. -/

namespace Sys2Proof.Machine

/-! ## Responses and reports -/

/-- The status codes of a response (12.3, 13.3). -/
inductive Status where
  | ok | okClamped | busy | state | badArg | noRoom | unknown | sealedOff | notReady | pendingWeigh | balance | incomplete
  | drawer | printed | badToken | already | outOfRange | mismatch | noSale
deriving DecidableEq, Repr

/-- The states of the Weighing engine; FAULT stands with its cause (R15). -/
inductive Engine where
  | warming | initialZero | zeroError | measuring | calEdit | faultConverter | faultNotCalibrated
deriving DecidableEq, Repr

/-- The load condition (R14). -/
inductive LoadCond where
  | none | over | under | motion | zero | stable
deriving DecidableEq, Repr

/-- Where a weigh request came from (R42). -/
inductive Source where
  | scan | host
deriving DecidableEq, Repr

/-- How a weigh request ended (R53). -/
inductive WeighOutcome where
  | captured | netNotPositive | tareUnavailable | timeout | cancelled | fault
deriving DecidableEq, Repr

/-- The figures of a capture in grams: indicated gross G, interval d, tare T, net N (R49). -/
structure Figures where
  g : Int
  d : Int
  t : Int
  n : Int
deriving DecidableEq, Repr

/-- A WEIGHT report (R53). -/
structure WeightReport where
  token     : Nat
  sale      : Nat
  source    : Source
  tareClass : Nat
  outcome   : WeighOutcome
  endTime   : LaneTime
  figures   : Option Figures
  itemCode  : Option (List Byte)
deriving DecidableEq, Repr

/-- A LIVE report (R25). -/
structure LiveReport where
  load : LoadCond
  g    : Option Int
deriving DecidableEq, Repr

/-- The pending flags of SCALE_STATE (R24). -/
structure PendingFlags where
  trackLimitHit : Bool
  calCommitted  : Bool
  calDiscarded  : Bool
deriving DecidableEq, Repr

/-- A SCALE_STATE report (R24). -/
structure ScaleStateReport where
  engine     : Engine
  load       : LoadCond
  g          : Option Int
  zMg        : Int
  armed      : Bool
  trackLimit : Bool
  counter    : Nat
  flags      : PendingFlags
deriving DecidableEq, Repr

/-- What processing makes of a scanned code (R70). -/
inductive Disposition where
  | forwarded | rejected | blocked
deriving DecidableEq, Repr

/-- The classes of item codes; OTHER in reports only (R66, R70, 13.3). -/
inductive ItemClass where
  | ordinary | weighed | embedded | blocked | other
deriving DecidableEq, Repr

/-- What an embedded field holds (R66). -/
inductive EmbeddedKind where
  | price | weightG
deriving DecidableEq, Repr

/-- The flags of a SCAN report (R72). -/
structure ScanFlags where
  classesUnavailable : Bool
  noSale             : Bool
  weighQueueFull     : Bool
  tokensFull         : Bool
deriving DecidableEq, Repr

/-- A SCAN report (R72). -/
structure ScanReport where
  code        : List Byte
  disposition : Disposition
  itemClass   : Option ItemClass
  index       : Option Nat
  sale        : Nat
  token       : Option Nat
  tareClass   : Option Nat
  embedded    : Option (EmbeddedKind × Nat)
  flags       : ScanFlags
  time        : LaneTime
deriving DecidableEq, Repr

/-- How the decoding of a swipe ended (R83, R92). -/
inductive SwipeOutcome where
  | ok | tooLong | tooShort | speed | cell | noStart | parity | character | noEnd | lrc | format
deriving DecidableEq, Repr

/-- The direction in which a card was drawn (R87). -/
inductive Direction where
  | forward | reverse
deriving DecidableEq, Repr

/-- The classes of cards; UNKNOWN in reports only (R97, 13.3). -/
inductive CardClass where
  | payment | loyalty | gift | staff | unknown
deriving DecidableEq, Repr

/-- A masked digit string: `none` is the mask mark (R100). -/
abbrev Masked := List (Option Nat)

/-- The digit fields of a card record in clear (R91). -/
structure CardFields where
  number        : Option (List Nat)
  account       : Option (List Nat)
  expiry        : Option (List Nat)
  service       : Option (List Nat)
  discretionary : Option (List Nat)
deriving DecidableEq, Repr

/-- The masked fields of a CARD report (R100). -/
structure MaskedFields where
  number        : Option Masked
  account       : Option Masked
  expiry        : Option Masked
  service       : Option Masked
  discretionary : Option Masked
deriving DecidableEq, Repr

/-- A card record as the decoder forms it (R92). -/
structure CardRecord where
  swipe     : Nat
  endTime   : LaneTime
  outcome   : SwipeOutcome
  position  : Option Nat
  count     : Nat
  cell      : Option Nat
  direction : Option Direction
  fields    : CardFields
deriving DecidableEq, Repr

/-- What a card record was attached as (R104). -/
inductive Attachment where
  | none | cardReference | loyalty
deriving DecidableEq, Repr

/-- The flags of a CARD report (R104). -/
structure CardFlags where
  refsFull    : Bool
  replaced    : Bool
  checkFailed : Bool
deriving DecidableEq, Repr

/-- A CARD report (R104); `profile` holds the mask profile number and whether the fixed default was applied, `check` whether the
account check passed. -/
structure CardReport where
  swipe      : Nat
  endTime    : LaneTime
  time       : LaneTime
  outcome    : SwipeOutcome
  position   : Option Nat
  count      : Nat
  cell       : Option Nat
  direction  : Option Direction
  cardClass  : CardClass
  profile    : Option (Nat × Bool)
  fields     : MaskedFields
  check      : Option Bool
  sale       : Nat
  attachment : Attachment
  refIndex   : Option Nat
  flags      : CardFlags
deriving DecidableEq, Repr

/-- The state of a sale slot (R105, R108). -/
inductive SaleState where
  | free | opened | tendering | settled | closing | aborting | closed
deriving DecidableEq, Repr

/-- The causes of a SALE report (R124). -/
inductive SaleCause where
  | openSale | beginTender | resumeSale | settle | closeReceipt | abortSale | receiptCut | releaseSale
deriving DecidableEq, Repr

/-- The SUMMARY figures of a sale (R123). -/
structure SaleSummary where
  holdsTurn   : Bool
  due         : Nat
  tenders     : Nat
  amounts     : Nat
  changes     : Nat
  granted     : Nat
  used        : Nat
  tokens      : Nat
  tokenStates : List Nat
  refs        : Nat
  loyalty     : Bool
  linePrinted : Bool
  aborted     : Bool
deriving DecidableEq, Repr

/-- A SALE report (R124); `first` is the opening order FIRST. -/
structure SaleReport where
  sale     : Nat
  slot     : Nat
  newState : SaleState
  previous : SaleState
  cause    : SaleCause
  time     : LaneTime
  first    : Bool
  summary  : SaleSummary
deriving DecidableEq, Repr

/-- The kinds of DRAWER report (R135). -/
inductive DrawerKind where
  | opened | overdue | closed | jammed | forced
deriving DecidableEq, Repr

/-- A DRAWER report (R135). -/
structure DrawerReport where
  kind     : DrawerKind
  time     : LaneTime
  sale     : Nat
  position : Option Nat
  attempt  : Option Nat
  alarm    : Bool
  noPulse  : Bool
deriving DecidableEq, Repr

/-- The states of the drawer (R126). -/
inductive DrawerState where
  | closed | waitGrant | pulsing | confirming | opened | overdue | forcedOpen
deriving DecidableEq, Repr

/-- The opening that is being served: a tender's permit, or a no-sale opening (R126). -/
inductive Permit where
  | tender (sale position : Nat)
  | noSale
deriving DecidableEq, Repr

/-- A DRAWER_STATE report (R135). -/
structure DrawerStateReport where
  state   : DrawerState
  permit  : Option Permit
  attempt : Option Nat
  sense   : SenseLevel
  amount  : Option Nat
deriving DecidableEq, Repr

/-- The formats of an overlay (R143). -/
inductive OverlayFormat where
  | kg3 | g0
deriving DecidableEq, Repr

/-- A PRINTER report of kind TOKEN_PRINTED or CUT (R155). -/
inductive PrinterReport where
  | tokenPrinted (token sale : Nat) (net : Int) (format : OverlayFormat) (time : LaneTime)
  | cut (sale : Nat) (aborted : Bool) (lines : Nat) (time : LaneTime)
deriving DecidableEq, Repr

/-- The states of the Print engine (R138). -/
inductive PrintState where
  | idle | printing | cutFeed | cutting | stopped | heatHold
deriving DecidableEq, Repr

/-- The causes of STOPPED (R138). -/
inductive StopCause where
  | paper | cover | cutter
deriving DecidableEq, Repr

/-- A PRINTER_STATE report (R155): `turn` is the slot and the sale holding the print turn, `overlays` the token numbers with their
remaining counts, `cutSale` the number of the cut sale or 0. -/
structure PrinterStateReport where
  engine   : PrintState
  cause    : Option StopCause
  resume   : Option PrintState
  paper    : PaperLevel
  nearEnd  : NearEndLevel
  cover    : CoverLevel
  cutter   : CutterLevel
  temp     : Int
  turn     : Option (Nat × Nat)
  records0 : Nat
  records1 : Nat
  overlays : List (Nat × Nat)
  feed     : Nat
  cutSale  : Nat
deriving DecidableEq, Repr

/-- A report of any kind (12.4). -/
inductive Report where
  | weight (r : WeightReport)
  | scan (r : ScanReport)
  | card (r : CardReport)
  | sale (r : SaleReport)
  | drawer (r : DrawerReport)
  | printer (r : PrinterReport)
  | live (r : LiveReport)
  | scaleState (r : ScaleStateReport)
  | drawerState (r : DrawerStateReport)
  | printerState (r : PrinterStateReport)
deriving DecidableEq, Repr

/-- The four STATE kinds (12.4). -/
inductive StateKind where
  | live | scaleState | drawerState | printerState
deriving DecidableEq, Repr

/-- Which STATE kind a report is of; none for an EVENT report (12.4). -/
def Report.stateKind : Report → Option StateKind
  | .live _ => some .live
  | .scaleState _ => some .scaleState
  | .drawerState _ => some .drawerState
  | .printerState _ => some .printerState
  | _ => none

/-! ## Tables -/

/-- The lifecycle states of a loadable table (12.6). -/
inductive TableState where
  | empty | loading | ready
deriving DecidableEq, Repr

/-- A loadable table (12.6): its state, its entries at their indices in rising order, and its load cursor. The indices that hold
an entry are the set of indices loaded since the last clear (R185). -/
structure Table (E : Type) where
  state   : TableState
  entries : List (Nat × E)
  cursor  : Nat
deriving DecidableEq, Repr

/-- An EMPTY table with its cursor at the lowest index (R185). -/
def Table.cleared {E : Type} (lowest : Nat) : Table E := ⟨.empty, [], lowest⟩

/-- The entry at an index, if it holds one. -/
def Table.at? {E : Type} (t : Table E) (i : Nat) : Option E :=
  (t.entries.find? fun p => p.1 == i).map Prod.snd

/-- An entry of the Item Class Table (R66); `lead` is the prefix. -/
structure ItemEntry where
  lead        : List Byte
  codeLength  : Nat
  itemClass   : ItemClass
  tareClass   : Nat
  fieldStart  : Nat
  fieldLength : Nat
  fieldKind   : EmbeddedKind
deriving DecidableEq, Repr

/-- An entry of the Card Class Table (R97). -/
structure CardEntry where
  low       : Nat
  high      : Nat
  cardClass : CardClass
  profile   : Nat
deriving DecidableEq, Repr

/-- An entry of the Mask Profile Table (R99): `…Clear` is the rule CLEAR, its opposite DROP (MASK for NUMBER). -/
structure MaskEntry where
  keepFirst          : Nat
  keepLast           : Nat
  expiryClear        : Bool
  serviceClear       : Bool
  discretionaryClear : Bool
  numberClear        : Bool
deriving DecidableEq, Repr

/-- The source events of the Reaction unit (11, R170). -/
inductive SourceEvent where
  | scaleZero | scaleOver | weightCaptured | weighTimeout | scanRejected | scanBlocked | cardOk | cardError
  | drawerOpened | drawerOverdue | drawerClosed | drawerJammed | paperOut | paperNearEnd | receiptCut | saleSettled
  | lowSupply | supplyOk
deriving DecidableEq, Repr

/-- The settings of a lamp (R172). -/
inductive LampSetting where
  | off | on | blink
deriving DecidableEq, Repr

/-- An action of the Reaction Table with its argument (R170); a BEEP carries units of 50 ms. -/
inductive Action where
  | lampA (v : LampSetting)
  | lampB (v : LampSetting)
  | beep (units : Nat)
  | holdScanner
  | releaseScanner
  | holdSwipe
  | releaseSwipe
deriving DecidableEq, Repr

/-- An entry of the Reaction Table (R170). -/
structure ReactionEntry where
  source : SourceEvent
  action : Action
deriving DecidableEq, Repr

/-! ## The Lane Link port -/

/-- What happens when a response has been sent (R177, R189). -/
inductive AfterSend where
  | nothing | rateChange | laneReset | fullReset
deriving DecidableEq, Repr

/-- The present values that Get Status carries for one table (R187). -/
structure TableStatus where
  state  : TableState
  cursor : Nat
  loaded : Nat
deriving DecidableEq, Repr

/-- The kinds of grant (R158). -/
inductive GrantKind where
  | solenoid | cutter | motor | strobe
deriving DecidableEq, Repr

/-- A waiting request at the Supply arbiter: amount in mA, duration in µs (R158). -/
structure Request where
  kind     : GrantKind
  amount   : Nat
  duration : Nat
deriving DecidableEq, Repr

/-- An active grant: amount in mA, start as an instant of lane time in µs, duration in µs; its planned end is start plus duration
(R159). -/
structure Grant where
  kind     : GrantKind
  amount   : Nat
  start    : Nat
  duration : Nat
deriving DecidableEq, Repr

/-- What Get Status answers (R187). -/
structure StatusReport where
  laneTime      : LaneTime
  rate          : Nat
  responses     : Nat
  reports       : Nat
  slots         : Nat
  tables        : List TableStatus
  scanHost      : Bool
  scanReaction  : Bool
  scanQueue     : Bool
  swipeHost     : Bool
  swipeReaction : Bool
  low           : Bool
  volts         : Nat
  budget        : Nat
  pendingBudget : Option Nat
  grants        : List Grant
  requests      : List Request
  lampA         : LampSetting
  lampB         : LampSetting
  beepMs        : Nat
deriving DecidableEq, Repr

/-- What Identify answers (R187), less the vendor code, the part number and the revision, which are fixed. -/
structure Identity where
  counter : Nat
  restart : Bool
  max     : Nat
  d1      : Nat
  d2      : Nat
  range1  : Nat
deriving DecidableEq, Repr

/-- The kinds of tender (R105). -/
inductive TenderKind where
  | cash | card | voucher
deriving DecidableEq, Repr

/-- The drawer permit of a tender (R105). -/
inductive TenderPermit where
  | none | unused | used
deriving DecidableEq, Repr

/-- A tender (R105); its position is its place in the list. -/
structure Tender where
  kind   : TenderKind
  amount : Nat
  change : Nat
  ref    : Option Nat
  permit : TenderPermit
deriving DecidableEq, Repr

/-- The states of a weight token (R57). -/
inductive TokenState where
  | captured | queued | printing | printed | voided
deriving DecidableEq, Repr

/-- A weight token (R55). -/
structure Token where
  number    : Nat
  sale      : Nat
  itemCode  : Option (List Byte)
  tareClass : Nat
  figures   : Figures
  time      : LaneTime
  state     : TokenState
deriving DecidableEq, Repr

/-- A card reference (R102); its index is its place in the list. -/
structure CardReference where
  swipe     : Nat
  cardClass : CardClass
  profile   : Nat
  digits    : Masked
  expiry    : Option Masked
deriving DecidableEq, Repr

/-- The loyalty reference (R103). -/
structure LoyaltyReference where
  swipe   : Nat
  profile : Nat
  digits  : Masked
deriving DecidableEq, Repr

/-- One entry of a loadable table, as Read Entry answers it (R186). -/
inductive AnyEntry where
  | item (e : ItemEntry)
  | tare (grams : Int)
  | card (e : CardEntry)
  | mask (e : MaskEntry)
  | glyph (rows : List GlyphRow)
  | strobe (micros : Nat)
  | reaction (e : ReactionEntry)
deriving DecidableEq, Repr

/-- The results a response carries after its status (R190), named by the rules of the commands. -/
inductive Result where
  /-- No result. -/
  | empty
  /-- A position, an index, a count or a check number that goes with a refusal, or a count of records (one byte). -/
  | small (n : Nat)
  /-- R187. -/
  | identity (i : Identity)
  /-- R187. -/
  | status (r : StatusReport)
  /-- The stored value of a parameter (R184). -/
  | parameter (value : Nat)
  /-- The new cursor and the count of loaded indices (R185). -/
  | loaded (cursor count : Nat)
  /-- The table's state and the entry at the index, if it holds one (R186). -/
  | entry (state : TableState) (e : Option AnyEntry)
  /-- Every counter of a group (R188). -/
  | counters (values : List Nat)
  /-- The number of a token (R46) . -/
  | token (number : Nat)
  /-- The sale number and the slot (R110). -/
  | opened (number slot : Nat)
  /-- The tender's position and the permits granted (R114). -/
  | tender (position granted : Nat)
  /-- The balance and the amount due (R116). -/
  | balance (balance : Int) (due : Nat)
  /-- Get Sale of a FREE slot (R123). -/
  | freeSlot
  /-- Get Sale SUMMARY (R123). -/
  | summary (state : SaleState) (number : Nat) (first : Bool) (s : SaleSummary)
  /-- Get Sale TENDERS (R123). -/
  | tenders (list : List Tender)
  /-- Get Sale TOKENS (R123). -/
  | tokens (list : List Token)
  /-- Get Sale REFERENCES (R123). -/
  | references (list : List CardReference) (loyalty : Option LoyaltyReference)
deriving DecidableEq, Repr

/-- A response (R180), with what its sending brings about. -/
structure Response where
  node   : BitVec 3
  code   : Byte
  tag    : Byte
  status : Status
  result : Result
  after  : AfterSend
deriving DecidableEq, Repr

/-- The frame in transmission (R181); `remnant` is the character in progress of a frame that a LANE reset cut (R189). -/
inductive TxFrame where
  | response (r : Response)
  | report (r : Report)
  | remnant
deriving DecidableEq, Repr

/-- A frame in assembly: the node of its header, and its data characters so far, in order (R178). -/
structure Assembly where
  node  : BitVec 3
  chars : List Byte
deriving DecidableEq, Repr

/-- The link counters (R188). -/
structure LinkCounters where
  framesOk   : Nat
  crc        : Nat
  length     : Nat
  line       : Nat
  truncated  : Nat
  overrun    : Nat
  stray      : Nat
  unanswered : Nat
deriving DecidableEq, Repr

/-- The Lane Link port (12). -/
structure Port where
  /-- The link rate code, 0 to 5 (R176). -/
  rate        : Nat
  pendingRate : Option Nat
  /-- The receive buffer that assembles a frame, if one does (R179). -/
  assembly    : Option Assembly
  /-- The full receive buffers in the order in which their frames completed (R179). -/
  waiting     : List Frame
  /-- Data characters up to the next header are ignored and not counted stray (R178, R179). -/
  ignoring    : Bool
  /-- The dispatch pause (R177, R189). -/
  pause       : Bool
  responses   : List Response
  reports     : List Report
  /-- The state-report slots (R183). -/
  liveSlot    : Option LiveReport
  scaleSlot   : Option ScaleStateReport
  drawerSlot  : Option DrawerStateReport
  printerSlot : Option PrinterStateReport
  /-- The rotation mark: the candidate last given a place, 1 to 10 (R182). -/
  mark        : Nat
  tx          : Option TxFrame
  counters    : LinkCounters
deriving DecidableEq, Repr

/-! ## The Management node -/

/-- The parameters (12.5). -/
structure Params where
  weighWaitS            : Nat
  zeroTrack             : Nat
  liveWeight            : Nat
  drawerPulseMs         : Nat
  drawerCurrentMa       : Nat
  drawerLeftOpenS       : Nat
  noSaleAllowed         : Nat
  cardTenderRequiresRef : Nat
  supplyBudgetMa        : Nat
  motorCurrentMa        : Nat
  cutterCurrentMa       : Nat
  cutFeedLines          : Nat
  scannerRate           : Nat
deriving DecidableEq, Repr

/-- The lane counters (R188). -/
structure LaneCounters where
  scans         : Nat
  rejectedScans : Nat
  discardLong   : Nat
  discardChar   : Nat
  discardLine   : Nat
  swipesOk      : Nat
  swipesError   : Nat
  swipesLost    : Nat
  drawerOpens   : Nat
  noSaleOpens   : Nat
  jams          : Nat
  receiptsCut   : Nat
deriving DecidableEq, Repr

/-- A lamp: its setting, whether it is lit, and the lane time at which the present half period began (R172). -/
structure Lamp where
  setting : LampSetting
  lit     : Bool
  since   : LaneTime
deriving DecidableEq, Repr

/-- The Management node: parameters, tables 1 to 7, lane counters and indicators. -/
structure Mgmt where
  params    : Params
  items     : Table ItemEntry
  tares     : Table Int
  cards     : Table CardEntry
  masks     : Table MaskEntry
  glyphs    : Table (List GlyphRow)
  strobes   : Table Nat
  reactions : Table ReactionEntry
  counters  : LaneCounters
  lampA     : Lamp
  lampB     : Lamp
  /-- The beeper: silent, or the lane time at which it falls silent (R173). -/
  beeper    : Option LaneTime
deriving DecidableEq, Repr

/-! ## Weighing engine and Calibration store -/

/-- A calibration record (R28); k is the number of points, each counts above c_zero and a mass in mg. -/
structure CalRecord where
  max     : Nat
  d1      : Nat
  d2      : Nat
  range1  : Nat
  cZero   : Int
  points  : List (Nat × Nat)
  counter : Nat
  restart : Bool
deriving DecidableEq, Repr

/-- A weigh request (R42). -/
structure WeighRequest where
  number    : Nat
  slot      : Nat
  sale      : Nat
  source    : Source
  itemCode  : Option (List Byte)
  tareClass : Nat
  headTime  : Option LaneTime
deriving DecidableEq, Repr

/-- The last LIVE memory (R25). -/
structure LiveMemory where
  load : LoadCond
  g    : Option Int
  time : LaneTime
deriving DecidableEq, Repr

/-- The Weighing engine. -/
structure Scale where
  /-- The filter window, oldest first (R6). -/
  filter      : List Int
  /-- The stability window, oldest first (R13). -/
  stability   : List Int
  /-- The calibration stability window, oldest first (R31). -/
  calWindow   : List Int
  railRun     : Nat
  inRangeRun  : Nat
  noisyRun    : Nat
  /-- The lane time at which the current shock hold ends (R4). -/
  shockEnd    : Option LaneTime
  /-- A grant or a shock hold ended inside the present conversion window (the model's own record for R3, log 36). -/
  disturbed   : Bool
  engine      : Engine
  resume      : Option Engine
  zMg         : Int
  armed       : Bool
  load        : LoadCond
  /-- The indicated G, where R14 indicates one. -/
  shown       : Option Int
  /-- The newest filtered value since the filter window was last emptied (R14). -/
  newest      : Option Int
  /-- The zero tracking run: not running, or its start (R20). -/
  zeroRun     : Option LaneTime
  trackLimit  : Bool
  flags       : PendingFlags
  liveMemory  : Option LiveMemory
  /-- The LIVE memory has been emptied since the last trigger: the fresh LIVE waits for the next one (R25). -/
  liveWaits   : Bool
  /-- The waiting requests, the head first (R47). -/
  queue       : List WeighRequest
  /-- The outcome list (R54). -/
  outcomes    : List WeightReport
  /-- The token number of the head that an expiry of this very moment has seated, which the evaluation of this moment does not test (R50,
  log 52). -/
  passedOver  : Option Nat
  /-- The working calibration (R29), which is the edit copy during an edit session. -/
  cal         : Option CalRecord
  /-- An edit session is open (R32). -/
  session     : Bool
deriving DecidableEq, Repr

/-- A commit in flight (R38): writing after the erase has ended, the swipe clock at which the phase began, the commit image, and
whether a FULL reset came since the acceptance (R39). -/
structure StoreOp where
  writing   : Bool
  since     : MicroTime
  image     : CalRecord
  afterFull : Bool
deriving DecidableEq, Repr

/-- The Calibration store. -/
structure Store where
  /-- The nonvolatile record block: the characters of a written image, or unreadable (R28, R38, 13.6). -/
  block      : Option (List Byte)
  /-- The record last read or written; none when it was invalid (R29). -/
  copy       : Option CalRecord
  inFlight   : Option StoreOp
  /-- The seal switch reading (R30). -/
  sealSwitch : SealLevel
deriving DecidableEq, Repr

/-! ## Scanner intake and Swipe decoder -/

/-- The faults of a code frame (R64). -/
inductive ScanFault where
  | line | badChar | long
deriving DecidableEq, Repr

/-- The Scanner intake. -/
structure Scan where
  /-- The characters of the frame in progress, up to 32 (R63). -/
  chars        : List Byte
  /-- How many characters the frame in progress has; 0 when none is in progress. -/
  count        : Nat
  fault        : Option ScanFault
  /-- The finished frame that waits in the assembly buffer (R73). -/
  finished     : Option (List Byte)
  slot         : Option ScanReport
  holdHost     : Bool
  holdReaction : Bool
  holdQueue    : Bool
deriving DecidableEq, Repr

/-- The clear-to-send output: asserted while no hold reason stands (R74). -/
def Scan.clearToSend (b : Scan) : Bool := !(b.holdHost || b.holdReaction || b.holdQueue)

/-- The capture states of the Swipe decoder (R77). -/
inductive Capture where
  | waiting | armed | capturing | held
deriving DecidableEq, Repr

/-- The Swipe decoder. -/
structure Swipe where
  capture      : Capture
  lastReversal : MicroTime
  /-- The interval list, in arrival order, in µs (R79). -/
  intervals    : List Nat
  overflow     : Bool
  counter      : Nat
  decodeBuffer : Option CardRecord
  reportBuffer : Option CardReport
  holdHost     : Bool
  holdReaction : Bool
deriving DecidableEq, Repr

/-! ## Sale table and Drawer controller -/

/-- A sale record (R105); `first` is the opening order FIRST. -/
structure Sale where
  number      : Nat
  state       : SaleState
  first       : Bool
  due         : Nat
  tenders     : List Tender
  tokens      : List Token
  refs        : List CardReference
  loyalty     : Option LoyaltyReference
  linePrinted : Bool
  dotLines    : Nat
  aborted     : Bool
deriving DecidableEq, Repr

/-- The Sale table: two slots (none is FREE), the counters, and the SALE report list (R105, R106, R43, R124). -/
structure Sales where
  slot0     : Option Sale
  slot1     : Option Sale
  nextSale  : Nat
  nextToken : Nat
  /-- The one sale left, CLOSED, took the print turn as SECOND and keeps it after the release of the FIRST (R107). -/
  turnKept  : Bool
  reports   : List SaleReport
deriving DecidableEq, Repr

/-- The Drawer controller. -/
structure Drawer where
  state      : DrawerState
  permit     : Option Permit
  attempt    : Option Nat
  openedMark : Bool
  pulseEnd   : LaneTime
  deadline   : LaneTime
  openTime   : LaneTime
  /-- The sense switch reading (R126). -/
  sense      : SenseLevel
  /-- A change of the reading is held back by a full DRAWER report list (R126). -/
  deferred   : Bool
  reports    : List DrawerReport
deriving DecidableEq, Repr

/-! ## Print engine and Supply arbiter -/

/-- A line record (R139); a FEED keeps the count of its lines begun. -/
inductive LineRecord where
  | raster (dots : Dots)
  | feed (n begun : Nat)
  | overlay (token start : Nat) (format : OverlayFormat)
deriving DecidableEq, Repr

/-- An active overlay: the token and its net weight, the start column, the format, and the band lines that remain (R144). -/
structure Overlay where
  token     : Nat
  net       : Int
  start     : Nat
  format    : OverlayFormat
  remaining : Nat
deriving DecidableEq, Repr

/-- The dot line in production (R146): for which slot, whether it is a line of a cut feed, its dots, the supply voltage sampled at its
compose step in mV, I_dot in mA, the strobe time in µs from the beginning of its strobe phase on (R168), the strobe allowance in mA, the
dots whose shots are not yet requested, the dots of the shot whose STROBE request or grant is outstanding, and whether its step has been
requested. -/
structure Line where
  slot      : Nat
  cutFeed   : Bool
  dots      : Dots
  volts     : Nat
  iDot      : Nat
  strobe    : Option Nat
  allowance : Nat
  unfired   : Dots
  shot      : Option Dots
  stepping  : Bool
deriving DecidableEq, Repr

/-- The Print engine. -/
structure Printer where
  engine   : PrintState
  cause    : Option StopCause
  resume   : Option PrintState
  lines0   : List LineRecord
  lines1   : List LineRecord
  overlays : List Overlay
  line     : Option Line
  feed     : Nat
  /-- The number of the cut sale (R151). -/
  cutSale  : Option Nat
  /-- The home switch has read AWAY during this drive of the cutter (R152). -/
  awaySeen : Bool
  paper    : PaperLevel
  nearEnd  : NearEndLevel
  cover    : CoverLevel
  cutter   : CutterLevel
  temp     : Int
  reports  : List PrinterReport
deriving DecidableEq, Repr

/-- The Supply arbiter. -/
structure Supply where
  budget        : Nat
  pendingBudget : Option Nat
  solRequest    : Option Request
  solGrant      : Option Grant
  prnRequest    : Option Request
  prnGrant      : Option Grant
  quiet         : Bool
  low           : Bool
  volts         : Nat
deriving DecidableEq, Repr

/-! ## The state -/

/-- The clocks: lane time, the microseconds within its present millisecond, the swipe clock, and whether the sample of a trigger
at the present instant has been handled, or none is due (R1, R2, R77, R161). -/
structure Clock where
  laneTime   : LaneTime
  micro      : Nat
  swipeClock : MicroTime
  sampled    : Bool
deriving DecidableEq, Repr

/-- The state of the part: its twelve blocks (00_scope.md), the clocks, the levels of the switch inputs as last known, whether the
supply is up, and the queue of the commands that wait, first in, first out. -/
structure State where
  powered : Bool
  clock   : Clock
  inputs  : InputLevels
  port    : Port
  mgmt    : Mgmt
  scale   : Scale
  store   : Store
  scan    : Scan
  swipe   : Swipe
  sales   : Sales
  drawer  : Drawer
  printer : Printer
  supply  : Supply
  pending : List Instr
deriving DecidableEq, Repr

/-- The part has no fault that stops it: nothing raises one (INVENTORY.md, "Faults"). -/
inductive Fault where
deriving DecidableEq, Repr

/-- Why the model answers no next state. -/
inductive Refusal where
  /-- Raised by an arm of `exec` whose row has no meaning yet; no arm raises it. Safe: nothing is claimed of such a row. -/
  | notModelled (mnemonic : String)
deriving DecidableEq, Repr

/-! ## Updates of one block -/

/-- Replaces the clocks. -/
def State.modClock (f : Clock → Clock) (s : State) : State := { s with clock := f s.clock }
/-- Replaces the Lane Link port. -/
def State.modPort (f : Port → Port) (s : State) : State := { s with port := f s.port }
/-- Replaces the Management node. -/
def State.modMgmt (f : Mgmt → Mgmt) (s : State) : State := { s with mgmt := f s.mgmt }
/-- Replaces the Weighing engine. -/
def State.modScale (f : Scale → Scale) (s : State) : State := { s with scale := f s.scale }
/-- Replaces the Calibration store. -/
def State.modStore (f : Store → Store) (s : State) : State := { s with store := f s.store }
/-- Replaces the Scanner intake. -/
def State.modScan (f : Scan → Scan) (s : State) : State := { s with scan := f s.scan }
/-- Replaces the Swipe decoder. -/
def State.modSwipe (f : Swipe → Swipe) (s : State) : State := { s with swipe := f s.swipe }
/-- Replaces the Sale table. -/
def State.modSales (f : Sales → Sales) (s : State) : State := { s with sales := f s.sales }
/-- Replaces the Drawer controller. -/
def State.modDrawer (f : Drawer → Drawer) (s : State) : State := { s with drawer := f s.drawer }
/-- Replaces the Print engine. -/
def State.modPrinter (f : Printer → Printer) (s : State) : State := { s with printer := f s.printer }
/-- Replaces the Supply arbiter. -/
def State.modSupply (f : Supply → Supply) (s : State) : State := { s with supply := f s.supply }

/-! ## Reset values -/

/-- The parameters after power-on and a FULL reset (12.5). -/
def Params.defaults : Params :=
  { weighWaitS := 20, zeroTrack := 1, liveWeight := 0, drawerPulseMs := 80, drawerCurrentMa := 1200, drawerLeftOpenS := 30,
    noSaleAllowed := 0, cardTenderRequiresRef := 1, supplyBudgetMa := 2000, motorCurrentMa := 400, cutterCurrentMa := 600,
    cutFeedLines := 96, scannerRate := 9600 }

/-- Link counters of 0 (R188). -/
def LinkCounters.zero : LinkCounters := ⟨0, 0, 0, 0, 0, 0, 0, 0⟩

/-- Lane counters of 0 (R188). -/
def LaneCounters.zero : LaneCounters := ⟨0, 0, 0, 0, 0, 0, 0, 0, 0, 0, 0, 0⟩

/-- A lamp that is OFF (R172). -/
def Lamp.dark : Lamp := ⟨.off, false, 0⟩

/-- No pending flag (R16). -/
def PendingFlags.clear : PendingFlags := ⟨false, false, false⟩

/-- The port after power-on and a FULL reset (R189), before the STATE reports of the reset. -/
def Port.fresh : Port :=
  { rate := 1, pendingRate := none, assembly := none, waiting := [], ignoring := false, pause := false, responses := [],
    reports := [], liveSlot := none, scaleSlot := none, drawerSlot := none, printerSlot := none, mark := 10, tx := none,
    counters := .zero }

/-- The Management node after power-on and a FULL reset (12.5, 12.6, R172, R173, R188). -/
def Mgmt.fresh : Mgmt :=
  { params := .defaults, items := .cleared 0, tares := .cleared 1, cards := .cleared 0, masks := .cleared 0,
    glyphs := .cleared 0, strobes := .cleared 0, reactions := .cleared 0, counters := .zero, lampA := .dark, lampB := .dark,
    beeper := none }

/-- The Weighing engine after power-on and a FULL reset (R16, R31, R61), with the calibration then working: WARMING with one,
FAULT(NOT_CALIBRATED) without. -/
def Scale.fresh (cal : Option CalRecord) : Scale :=
  { filter := [], stability := [], calWindow := [], railRun := 0, inRangeRun := 0, noisyRun := 0, shockEnd := none,
    disturbed := false, engine := if cal.isSome then .warming else .faultNotCalibrated, resume := none, zMg := 0,
    armed := false, load := .none, shown := none, newest := none, zeroRun := none, trackLimit := false, flags := .clear,
    liveMemory := none, liveWaits := true, queue := [], outcomes := [], passedOver := none, cal := cal,
    session := false }

/-- The Scanner intake after every reset (R76). -/
def Scan.fresh : Scan :=
  { chars := [], count := 0, fault := none, finished := none, slot := none, holdHost := false, holdReaction := false,
    holdQueue := false }

/-- The Swipe decoder after a reset at a moment of its clock, with the swipe number counter then standing (R94). R94 does not name the
interval list and the overflow mark; they are empty and clear after every reset (DESIGN CHOICE, log 49). -/
def Swipe.fresh (now : MicroTime) (counter : Nat) : Swipe :=
  { capture := .waiting, lastReversal := now, intervals := [], overflow := false, counter := counter, decodeBuffer := none,
    reportBuffer := none, holdHost := false, holdReaction := false }

/-- The Sale table after power-on and a FULL reset (R125). -/
def Sales.fresh : Sales := { slot0 := none, slot1 := none, nextSale := 1, nextToken := 1, turnKept := false, reports := [] }

/-- The Drawer controller after a reset at a lane time, from the level of the sense switch (R136). -/
def Drawer.fresh (level : SenseLevel) (now : LaneTime) : Drawer :=
  { state := if level = .opened then .opened else .closed, permit := none, attempt := none, openedMark := false, pulseEnd := 0,
    deadline := 0, openTime := if level = .opened then now else 0, sense := level, deferred := false, reports := [] }

/-- Why the Print engine starts STOPPED after a reset, if it does (R156): the cutter first, then the cover, then the paper. -/
def resetStop (levels : InputLevels) : Option StopCause :=
  if levels.cutter = .away then some .cutter
  else if levels.cover = .opened then some .cover
  else if levels.paper = .out then some .paper
  else none

/-- The Print engine after a reset, from the levels of its inputs and the latest head temperature (R156). A cut feed remaining of none
is held as 0 (DESIGN CHOICE, log 50). -/
def Printer.fresh (levels : InputLevels) (temp : Int) : Printer :=
  let cause := resetStop levels
  { engine := if cause.isSome then .stopped else .idle, cause := cause,
    resume := if cause = some .cover ∨ cause = some .paper then some .idle else none,
    lines0 := [], lines1 := [], overlays := [], line := none, feed := 0, cutSale := none, awaySeen := false,
    paper := levels.paper, nearEnd := levels.nearEnd, cover := levels.cover, cutter := levels.cutter, temp := temp,
    reports := [] }

/-- The Supply arbiter after a reset, with the budget then in force and the reading of the supply voltage (R162, R169). -/
def Supply.fresh (budget volts : Nat) : Supply :=
  { budget := budget, pendingBudget := none, solRequest := none, solGrant := none, prnRequest := none, prnGrant := none,
    quiet := false, low := volts < 6000, volts := volts }

/-- DESIGN CHOICE (log 7): the levels of the switch inputs at `State.reset`, which the spec leaves to the lane. -/
def levelsAtReset : InputLevels := ⟨.opened, .closed, .present, .normal, .closed, .home⟩

/-- DESIGN CHOICE (log 7): the supply voltage at `State.reset`, in mV. -/
def voltsAtReset : Nat := 7200

/-- DESIGN CHOICE (log 7): the head temperature at `State.reset`, in °C. -/
def tempAtReset : Int := 25

/-- The machine right after power-on. The record block is unreadable (DESIGN CHOICE, log 8), so there is no working calibration.
The three STATE reports of the reset have been formed (R16, R135, R156), and the first of them is in transmission (R181; their
order is log 9). Nothing waits. -/
def State.reset : State :=
  { powered := true
    clock := { laneTime := 0, micro := 0, swipeClock := 0, sampled := true }
    inputs := levelsAtReset
    port := { Port.fresh with
      tx := some (.report (.scaleState ⟨.faultNotCalibrated, .none, none, 0, false, false, 0, .clear⟩))
      reports :=
        [.drawerState ⟨.closed, none, none, .closed, none⟩,
         .printerState ⟨.idle, none, none, .present, .normal, .closed, .home, tempAtReset, none, 0, 0, [], 0, 0⟩] }
    mgmt := .fresh
    scale := .fresh none
    store := { block := none, copy := none, inFlight := none, sealSwitch := .opened }
    scan := .fresh
    swipe := .fresh 0 0
    sales := .fresh
    drawer := .fresh .closed 0
    printer := .fresh levelsAtReset tempAtReset
    supply := .fresh 2000 voltsAtReset
    pending := [] }

end Sys2Proof.Machine
end

