-- ==== Sys2Proof/Machine/HeadEnergy.lean ====
section
/-! DEFINITION. Head energy (10.4): the current of a dot, the packing of a dot line into units and shots, and the strobe time. -/

namespace Sys2Proof.Machine

/-- The dots of a line in the columns from `start` on, `width` of them. -/
def columns (dots : Dots) (start width : Nat) : Dots := dots &&& (BitVec.ofNat 384 (2 ^ width - 1) <<< start)

/-- The number of dots to heat. -/
def dotCount (dots : Dots) : Nat := (List.range 384).countP fun c => dots.getLsbD c

/-- I_dot in mA for a supply voltage in mV (R163). -/
def dotCurrent (volts : Nat) : Nat := ceilDiv (clamp 5000 9000 volts) 180

/-- The current of a set of dots (R163). -/
def dotsCurrent (iDot : Nat) (dots : Dots) : Nat := dotCount dots * iDot

/-- The quarters of 16 columns of a half that have dots to heat (R165). -/
def quarterUnits (dots : Dots) (start : Nat) : List Dots :=
  [columns dots start 16, columns dots (start + 16) 16].filter fun q => q != 0

/-- The units of a half of 32 columns (R165). -/
def halfUnits (allowance iDot : Nat) (dots : Dots) (start : Nat) : List Dots :=
  let h := columns dots start 32
  if h = 0 then [] else if dotsCurrent iDot h ≤ allowance then [h] else quarterUnits dots start

/-- The units of a strobe group of 64 columns (R165). -/
def groupUnits (allowance iDot : Nat) (dots : Dots) (start : Nat) : List Dots :=
  let g := columns dots start 64
  if g = 0 then []
  else if dotsCurrent iDot g ≤ allowance then [g]
  else halfUnits allowance iDot dots start ++ halfUnits allowance iDot dots (start + 32)

/-- The units of a dot line, in column order (R165). -/
def units (allowance iDot : Nat) (dots : Dots) : List Dots :=
  (List.range 6).flatMap fun g => groupUnits allowance iDot dots (64 * g)

/-- The shot that an open shot grows to: units join while the shot stays within the allowance (R166). -/
def growShot (allowance iDot : Nat) : Dots → List Dots → Dots
  | shot, [] => shot
  | shot, u :: rest =>
    if dotsCurrent iDot shot + dotsCurrent iDot u ≤ allowance then growShot allowance iDot (shot ||| u) rest else shot

/-- All the shots of consecutive units, the first of them open (R166). -/
def shotsFrom (allowance iDot : Nat) : Dots → List Dots → List Dots
  | shot, [] => [shot]
  | shot, u :: rest =>
    if dotsCurrent iDot shot + dotsCurrent iDot u ≤ allowance then shotsFrom allowance iDot (shot ||| u) rest
    else shot :: shotsFrom allowance iDot u rest

/-- The shots of a dot line (R166); none when a unit draws more than the allowance, and so the line waits. -/
def shots (allowance iDot : Nat) (dots : Dots) : Option (List Dots) :=
  match units allowance iDot dots with
  | [] => some []
  | u :: rest =>
    if (u :: rest).all fun v => dotsCurrent iDot v ≤ allowance then some (shotsFrom allowance iDot u rest) else none

/-- The next shot of the dots not yet requested, if they may be fired (R166). The units are formed from those dots alone: in column
order, this gives the shots of one packing as long as the allowance stands (log 29). -/
def nextShot? (allowance iDot : Nat) (unfired : Dots) : Option Dots :=
  match units allowance iDot unfired with
  | [] => none
  | u :: rest =>
    if (u :: rest).all fun v => dotsCurrent iDot v ≤ allowance then some (growShot allowance iDot u rest) else none

/-- The band of head temperature: an index of the Strobe Table (R167). -/
def strobeBand (temp : Int) : Nat :=
  if temp < 5 then 0 else if temp < 15 then 1 else if temp < 25 then 2 else if temp < 35 then 3
  else if temp < 45 then 4 else if temp < 55 then 5 else if temp < 65 then 6 else 7

/-- The base strobe time for a head temperature, 700 µs while table 6 is not READY (R167). -/
def baseTime (table : Table Nat) (temp : Int) : Nat :=
  if table.state = .ready then (table.at? (strobeBand temp)).getD 700 else 700

/-- The strobe time of a dot line in µs (R168). -/
def strobeTime (base volts : Nat) : Nat :=
  let v := clamp 5000 9000 volts
  clamp 100 2000 (roundDiv ((base * 51840000 : Nat) : Int) (v * v)).toNat

end Sys2Proof.Machine
end

