-- ==== Sys2Proof/Machine/Ops.lean ====
section
/-! DEFINITION. The operations that every block shares: the clocks, the report queue and its sources, the responses, the
reactions, and the frame of a meaning. -/

namespace Sys2Proof.Machine

/-! ## Clocks -/

/-- The circle of lane time in microseconds: 2^32 ms. It is a multiple of 8 ms, so the sample schedule runs on across the wrap (R1). -/
def circle : Nat := 4294967296000

/-- The present instant of lane time, in microseconds. -/
def Clock.instant (c : Clock) : Nat := c.laneTime.toNat * 1000 + c.micro

/-- Microseconds since an earlier instant, modulo the circle. -/
def Clock.microsSince (c : Clock) (start : Nat) : Nat := (c.instant + (circle - start % circle)) % circle

/-- Milliseconds of lane time since an earlier lane time, modulo 2^32 (00_scope.md, "Numbers and units"). -/
def Clock.millisSince (c : Clock) (start : LaneTime) : Nat := (c.laneTime - start).toNat

/-- Microseconds since the trigger instant that came last; 0 at a trigger instant (R1). -/
def Clock.phase (c : Clock) : Nat := c.instant % 8000

/-- Whether the moments just before the present one lie in a conversion window: after 6 ms past the last trigger, or at a trigger
whose sample has not been handled yet (R1, R3). -/
def Clock.inWindow (c : Clock) : Bool := 6000 < c.phase || (c.phase == 0 && !c.sampled)

/-- Whether a trigger is due at the present instant (R1). -/
def Clock.triggerDue (c : Clock) : Bool := c.phase == 0 && !c.sampled

/-- The clocks one microsecond later; a new trigger instant has no sample handled yet (R1, R77). -/
def Clock.tick (c : Clock) : Clock :=
  let c' :=
    if c.micro + 1 < 1000 then { c with micro := c.micro + 1, swipeClock := c.swipeClock + 1 }
    else { c with laneTime := c.laneTime + 1, micro := 0, swipeClock := c.swipeClock + 1 }
  { c' with sampled := c.sampled && c'.phase != 0 }

/-! ## The transmitter -/

/-- The idle transmitter takes the oldest response, or else the report at the head of the report queue (R181). -/
def Port.startFrame (p : Port) : Port :=
  match p.tx with
  | some _ => p
  | none =>
    match p.responses, p.reports with
    | r :: rest, _ => { p with tx := some (.response r), responses := rest }
    | [], q :: rest => { p with tx := some (.report q), reports := rest }
    | [], [] => p

/-- The frame of every meaning: without supply the part takes no step (log 10); otherwise the effect takes place and, within the
same step, an idle transmitter begins its next frame (R181). That it begins only after the whole effect, so that a command's response
goes out before the reports that its performance formed, is a DESIGN CHOICE (log 56). -/
def run (effect : State → State) (s : State) : Host.Outcome State Fault Refusal :=
  .next (if s.powered then (effect s).modPort Port.startFrame else s)

/-! ## The report queue and its sources (12.4) -/

/-- Whether the report queue holds fewer than 24 reports (R182). -/
def Port.hasRoom (p : Port) : Bool := p.reports.length < 24

/-- Whether no source and no state-report slot holds a report that waits for a place (R182). -/
def nothingWaits (s : State) : Bool :=
  s.scale.outcomes.isEmpty && s.scan.slot.isNone && s.swipe.reportBuffer.isNone && s.sales.reports.isEmpty
    && s.drawer.reports.isEmpty && s.printer.reports.isEmpty && s.port.liveSlot.isNone && s.port.scaleSlot.isNone
    && s.port.drawerSlot.isNone && s.port.printerSlot.isNone

/-- Whether a report formed now joins the queue at once (R182, R183). -/
def joinsAtOnce (s : State) : Bool := s.port.hasRoom && nothingWaits s

/-- A report joins the end of the report queue. -/
def enqueue (r : Report) (s : State) : State := s.modPort fun p => { p with reports := p.reports ++ [r] }

/-- A WEIGHT report is formed: into the queue, or at the end of the outcome list (R54, R182). -/
def offerWeight (r : WeightReport) (s : State) : State :=
  if joinsAtOnce s then enqueue (.weight r) s else s.modScale fun b => { b with outcomes := b.outcomes ++ [r] }

/-- A SCAN report is offered: into the queue, or into the holding slot with the hold reason QUEUE (R73). -/
def offerScan (r : ScanReport) (s : State) : State :=
  if joinsAtOnce s then enqueue (.scan r) s else s.modScan fun b => { b with slot := some r, holdQueue := true }

/-- A CARD report is offered: into the queue, or into the report buffer (R93). -/
def offerCard (r : CardReport) (s : State) : State :=
  if joinsAtOnce s then enqueue (.card r) s else s.modSwipe fun b => { b with reportBuffer := some r }

/-- A SALE report is formed: into the queue, or at the end of the SALE report list (R124). -/
def offerSale (r : SaleReport) (s : State) : State :=
  if joinsAtOnce s then enqueue (.sale r) s else s.modSales fun b => { b with reports := b.reports ++ [r] }

/-- A DRAWER report is formed: into the queue, or at the end of the DRAWER report list (R135). -/
def offerDrawer (r : DrawerReport) (s : State) : State :=
  if joinsAtOnce s then enqueue (.drawer r) s else s.modDrawer fun b => { b with reports := b.reports ++ [r] }

/-- A PRINTER report is formed: into the queue, or at the end of the PRINTER report list (R155). -/
def offerPrinter (r : PrinterReport) (s : State) : State :=
  if joinsAtOnce s then enqueue (.printer r) s else s.modPrinter fun b => { b with reports := b.reports ++ [r] }

/-- Whether a report of a STATE kind stands in the queue. -/
def Port.queues (p : Port) (k : StateKind) : Bool := p.reports.any fun q => q.stateKind == some k

/-- The queue with the report of its kind replaced in its position (R183). -/
def replaceKind (k : StateKind) (r : Report) (q : List Report) : List Report :=
  q.map fun x => if x.stateKind = some k then r else x

/-- Places a STATE report (R183): the queued one of its kind is replaced in place; failing that the one in its slot; failing that
it joins the queue if it may, and otherwise enters its slot. -/
def placeState (k : StateKind) (r : Report) (slotFull : Bool) (intoSlot : Port → Port) (s : State) : State :=
  if s.port.queues k then s.modPort fun p => { p with reports := replaceKind k r p.reports }
  else if slotFull then s.modPort intoSlot
  else if joinsAtOnce s then enqueue r s
  else s.modPort intoSlot

/-- The SCALE_STATE report of the present state (R24). The counter is 0 without a working calibration (R29). -/
def scaleStateOf (s : State) : ScaleStateReport :=
  { engine := s.scale.engine, load := s.scale.load, g := s.scale.shown, zMg := s.scale.zMg, armed := s.scale.armed,
    trackLimit := s.scale.trackLimit, counter := (s.scale.cal.map CalRecord.counter).getD 0, flags := s.scale.flags }

/-- A SCALE_STATE report is formed (R24, R183). -/
def formScaleState (s : State) : State :=
  let r := scaleStateOf s
  placeState .scaleState (.scaleState r) s.port.scaleSlot.isSome (fun p => { p with scaleSlot := some r }) s

/-- A LIVE report is formed (R25, R183). -/
def formLive (s : State) : State :=
  let r : LiveReport := ⟨s.scale.load, s.scale.shown⟩
  placeState .live (.live r) s.port.liveSlot.isSome (fun p => { p with liveSlot := some r }) s

/-- The DRAWER_STATE report of the present state; the amount is that of the request outstanding in WAIT_GRANT (R135). -/
def drawerStateOf (s : State) : DrawerStateReport :=
  { state := s.drawer.state, permit := s.drawer.permit, attempt := s.drawer.attempt, sense := s.drawer.sense,
    amount := if s.drawer.state = .waitGrant then s.supply.solRequest.map Request.amount else none }

/-- A DRAWER_STATE report is formed (R135, R183). -/
def formDrawerState (s : State) : State :=
  let r := drawerStateOf s
  placeState .drawerState (.drawerState r) s.port.drawerSlot.isSome (fun p => { p with drawerSlot := some r }) s

/-! ## The two sale slots -/

/-- The sale in a slot. -/
def Sales.at? (b : Sales) (slot : Nat) : Option Sale := if slot = 0 then b.slot0 else b.slot1

/-- The table with one slot replaced. -/
def Sales.put (b : Sales) (slot : Nat) (x : Option Sale) : Sales :=
  if slot = 0 then { b with slot0 := x } else { b with slot1 := x }

/-- The slot that holds a sale number; 0 names no sale (R109). -/
def Sales.find? (b : Sales) (number : Nat) : Option (Nat × Sale) :=
  if number = 0 then none
  else match b.slot0, b.slot1 with
    | some x, some y => if x.number = number then some (0, x) else if y.number = number then some (1, y) else none
    | some x, none => if x.number = number then some (0, x) else none
    | none, some y => if y.number = number then some (1, y) else none
    | none, none => none

/-- Whether a sale is OPEN or TENDERING, that is, the lane's current sale (R108). -/
def Sale.isCurrent (x : Sale) : Bool := x.state = .opened || x.state = .tendering

/-- The lane's current sale with its slot, if there is one (R108). -/
def Sales.current? (b : Sales) : Option (Nat × Sale) :=
  match b.slot0.filter Sale.isCurrent, b.slot1.filter Sale.isCurrent with
  | some x, _ => some (0, x)
  | none, some y => some (1, y)
  | none, none => none

/-- The number of the lane's current sale, or 0 (R72, R104). -/
def Sales.currentNumber (b : Sales) : Nat := (b.current?.map fun p => p.2.number).getD 0

/-- The print turn of a sale that is alone (R107): it holds the turn until it is CLOSED, and then only if it kept it as the SECOND of two
sales when the FIRST was released (log 17). -/
def Sales.turnAlone (b : Sales) (slot : Nat) (x : Sale) : Option Nat :=
  if x.state = .closed ∧ b.turnKept = false then none else some slot

/-- The slot that holds the print turn (R107): the FIRST slot while it is not CLOSED, else the SECOND slot if it holds a sale. -/
def Sales.turn? (b : Sales) : Option Nat :=
  match b.slot0, b.slot1 with
  | some x, some y =>
    if x.first then (if x.state = .closed then some 1 else some 0)
    else (if y.state = .closed then some 0 else some 1)
  | some x, none => b.turnAlone 0 x
  | none, some y => b.turnAlone 1 y
  | none, none => none

/-- The PRINTER_STATE report of the present state (R155). While no cut feed is in hand its cut feed remaining is 0 (DESIGN CHOICE,
log 50), and it names the active overlays in the order in which they were activated (DESIGN CHOICE, log 55). -/
def printerStateOf (s : State) : PrinterStateReport :=
  { engine := s.printer.engine, cause := s.printer.cause, resume := s.printer.resume, paper := s.printer.paper,
    nearEnd := s.printer.nearEnd, cover := s.printer.cover, cutter := s.printer.cutter, temp := s.printer.temp,
    turn := s.sales.turn?.bind fun i => (s.sales.at? i).map fun x => (i, x.number),
    records0 := s.printer.lines0.length, records1 := s.printer.lines1.length,
    overlays := s.printer.overlays.map fun o => (o.token, o.remaining),
    feed := s.printer.feed, cutSale := s.printer.cutSale.getD 0 }

/-- A PRINTER_STATE report is formed (R155, R183). -/
def formPrinterState (s : State) : State :=
  let r := printerStateOf s
  placeState .printerState (.printerState r) s.port.printerSlot.isSome (fun p => { p with printerSlot := some r }) s

/-! ## Counters -/

/-- Increases counters of the lane group. -/
def count (f : LaneCounters → LaneCounters) (s : State) : State := s.modMgmt fun b => { b with counters := f b.counters }

/-- Increases counters of the link group. -/
def countLink (f : LinkCounters → LinkCounters) (s : State) : State :=
  s.modPort fun p => { p with counters := f p.counters }

/-! ## Indicators, holds and reactions (11) -/

/-- A lamp takes a setting (R172); one equal to the setting that stands changes nothing. -/
def Lamp.set (v : LampSetting) (now : LaneTime) (l : Lamp) : Lamp :=
  if l.setting = v then l else { setting := v, lit := v != .off, since := now }

/-- The beeper sounds for n units of 50 ms from now; n = 0 silences it (R173, R174). -/
def beep (units : Nat) (s : State) : State :=
  s.modMgmt fun b =>
    { b with beeper := if units = 0 then none else some (s.clock.laneTime + BitVec.ofNat 32 (units * 50)) }

/-- Whether the swipe decoder is held (R81). -/
def Swipe.isHeld (b : Swipe) : Bool := b.holdHost || b.holdReaction

/-- The swipe hold reasons become those given (R81): gaining the first one abandons a swipe in progress, losing the last one
restarts the quiet. -/
def setSwipeHolds (host reaction : Bool) (s : State) : State :=
  let b := s.swipe
  let b' := { b with holdHost := host, holdReaction := reaction }
  if !b.isHeld && b'.isHeld then
    let s' := s.modSwipe fun _ => { b' with capture := .held }
    if b.capture = .capturing then count (fun k => { k with swipesLost := satInc k.swipesLost }) s' else s'
  else if b.isHeld && !b'.isHeld then
    s.modSwipe fun _ => { b' with capture := .waiting, lastReversal := s.clock.swipeClock }
  else s.modSwipe fun _ => b'

/-- One action of the Reaction Table on its owner (R172, R173, R175). -/
def perform (a : Action) (s : State) : State :=
  match a with
  | .lampA v => s.modMgmt fun b => { b with lampA := b.lampA.set v s.clock.laneTime }
  | .lampB v => s.modMgmt fun b => { b with lampB := b.lampB.set v s.clock.laneTime }
  | .beep n => beep n s
  | .holdScanner => s.modScan fun b => { b with holdReaction := true }
  | .releaseScanner => s.modScan fun b => { b with holdReaction := false }
  | .holdSwipe => setSwipeHolds s.swipe.holdHost true s
  | .releaseSwipe => setSwipeHolds s.swipe.holdHost false s

/-- A block raises a source event (R171): while table 7 is READY every entry of that source is performed in index order; otherwise
nothing is. -/
def raiseEvent (e : SourceEvent) (s : State) : State :=
  if s.mgmt.reactions.state = .ready then
    s.mgmt.reactions.entries.foldl (fun t p => if p.2.source = e then perform p.2.action t else t) s
  else s

/-! ## Commands and responses (R180) -/

/-- What the performance of a command answers: its status, its results, and what the sending of its response brings about. -/
structure Reply where
  status : Status
  result : Result := .empty
  after  : AfterSend := .nothing
deriving DecidableEq, Repr

/-- A command's own tests and effect. -/
abbrev Command := State → Reply × State

/-- A command that is refused with a status and changes nothing (R180). -/
def refuse (st : Status) (s : State) : Reply × State := (⟨st, .empty, .nothing⟩, s)

/-- A refusal with the position, index, count or check number that goes with it (R190). -/
def refuseAt (st : Status) (n : Nat) (s : State) : Reply × State := (⟨st, .small n, .nothing⟩, s)

/-- A command accepted with OK and no result. -/
def accept (s : State) : Reply × State := (⟨.ok, .empty, .nothing⟩, s)

/-- A command accepted with OK and a result. -/
def acceptWith (r : Result) (s : State) : Reply × State := (⟨.ok, r, .nothing⟩, s)

/-- The response to a frame joins the end of the response queue (R180). -/
def respond (f : Frame) (r : Reply) (s : State) : State :=
  s.modPort fun p => { p with responses := p.responses ++ [⟨f.node, f.code, f.tag, r.status, r.result, r.after⟩] }

/-- Dispatch of a frame (R180): with 4 responses queued the command is discarded unperformed and counted unanswered; otherwise it
is performed, and its response is formed in the same moment. -/
def dispatch (f : Frame) (cmd : Command) (s : State) : State :=
  if 4 ≤ s.port.responses.length then countLink (fun k => { k with unanswered := satInc k.unanswered }) s
  else respond f (cmd s).1 (cmd s).2

/-- A frame is complete and accepted (R178, R179): it counts as ok; while the dispatch pause is set it waits in its buffer, and
otherwise it is dispatched at once. -/
def acceptFrame (f : Frame) (cmd : Command) (s : State) : State :=
  let s' := countLink (fun k => { k with framesOk := satInc k.framesOk }) s
  if s.port.pause then s'.modPort fun p => { p with waiting := p.waiting ++ [f] } else dispatch f cmd s'

/-- A header of class COMMAND arrives (R178, R179): a frame in assembly is discarded and counted TRUNCATED; the new frame begins in
an empty buffer, or is lost and counted OVERRUN when both are full. -/
def beginFrame (node : BitVec 3) (s : State) : State :=
  let s' := if s.port.assembly.isSome then countLink (fun k => { k with truncated := satInc k.truncated }) s else s
  if 2 ≤ s.port.waiting.length then
    (countLink (fun k => { k with overrun := satInc k.overrun }) s').modPort fun p =>
      { p with assembly := none, ignoring := true }
  else s'.modPort fun p => { p with assembly := some ⟨node, []⟩, ignoring := false }

/-- A command that arrives as one whole frame (log 6): its header, and then, if a buffer was empty, its completion. -/
def receiveFrame (f : Frame) (cmd : Command) (s : State) : State :=
  let s' := beginFrame f.node s
  if s'.port.assembly.isSome then
    acceptFrame f cmd (s'.modPort fun p => { p with assembly := none })
  else s'

/-- The meaning of a host command's row: its whole frame arrives and, unless a pause or a full response queue prevents it, the
command is performed. -/
def runCommand (f : Frame) (cmd : Command) (s : State) : Host.Outcome State Fault Refusal := run (receiveFrame f cmd) s

end Sys2Proof.Machine
end

