-- ==== Sys2Proof/Machine/SaleOps.lean ====
section
/-! DEFINITION. The operations over the two sale slots that the blocks share: changing a record or a token, the SUMMARY figures,
and the SALE report of a transition. -/

namespace Sys2Proof.Machine

/-- The table with the sale of one slot changed; a FREE slot stays FREE. -/
def Sales.update (b : Sales) (slot : Nat) (f : Sale → Sale) : Sales := b.put slot ((b.at? slot).map f)

/-- The token of a number in a token list. -/
def Sale.token? (x : Sale) (number : Nat) : Option Token := x.tokens.find? fun t => t.number == number

/-- The sale with a change made to every token that a test picks out. -/
def Sale.mapTokens (test : Token → Bool) (f : Token → Token) (x : Sale) : Sale :=
  { x with tokens := x.tokens.map fun t => if test t then f t else t }

/-- The sale with one token moved to a state (R57); its figures stay. -/
def Sale.setToken (number : Nat) (st : TokenState) (x : Sale) : Sale :=
  x.mapTokens (fun t => t.number == number) fun t => { t with state := st }

/-- The count of tokens in a state. -/
def Sale.countTokens (x : Sale) (st : TokenState) : Nat := x.tokens.countP fun t => t.state == st

/-- Permits granted: the tenders whose permit is UNUSED or USED (R105). -/
def Sale.granted (x : Sale) : Nat := x.tenders.countP fun t => t.permit != .none

/-- Permits used: the tenders whose permit is USED (R105). -/
def Sale.used (x : Sale) : Nat := x.tenders.countP fun t => t.permit == .used

/-- The sum of the tender amounts (R105). -/
def Sale.amounts (x : Sale) : Nat := (x.tenders.map Tender.amount).foldl (· + ·) 0

/-- The sum of the tender changes (R105). -/
def Sale.changes (x : Sale) : Nat := (x.tenders.map Tender.change).foldl (· + ·) 0

/-- The SUMMARY figures of a sale (R123). -/
def Sale.summary (x : Sale) (holdsTurn : Bool) : SaleSummary :=
  { holdsTurn := holdsTurn, due := x.due, tenders := x.tenders.length, amounts := x.amounts, changes := x.changes,
    granted := x.granted, used := x.used, tokens := x.tokens.length,
    tokenStates := [TokenState.captured, .queued, .printing, .printed, .voided].map x.countTokens,
    refs := x.refs.length, loyalty := x.loyalty.isSome, linePrinted := x.linePrinted, aborted := x.aborted }

/-- The SALE report of a transition of a sale that stands in a slot after it (R124). -/
def saleReportOf (s : State) (slot : Nat) (x : Sale) (previous : SaleState) (cause : SaleCause) : SaleReport :=
  { sale := x.number, slot := slot, newState := x.state, previous := previous, cause := cause, time := s.clock.laneTime,
    first := x.first, summary := x.summary (s.sales.turn? == some slot) }

/-- A transition of R108 of the sale in a slot, with its SALE report (R124). -/
def changeSale (slot : Nat) (target : SaleState) (cause : SaleCause) (s : State) : State :=
  match s.sales.at? slot with
  | none => s
  | some x =>
    let y := { x with state := target }
    let s' := s.modSales fun b => b.put slot (some y)
    offerSale (saleReportOf s' slot y x.state cause) s'

/-- The SALE report list test of R109: a transition commanded by the host needs fewer than 6 reports held. -/
def saleListAllows (s : State) : Bool := s.sales.reports.length < 6

end Sys2Proof.Machine
end

