-- ==== Sys2Proof/Machine/Arbiter.lean ====
section
/-! DEFINITION. The Supply arbiter (10): the grant test, quiet demand and the budget, with the steps that a dot line and the drawer
take on it. -/

namespace Sys2Proof.Machine

/-! ## The grant test -/

/-- The current that the active grants draw together (R160). -/
def Supply.activeMa (b : Supply) : Nat := (b.solGrant.map Grant.amount).getD 0 + (b.prnGrant.map Grant.amount).getD 0

/-- Whether no grant is active. -/
def Supply.noGrant (b : Supply) : Bool := b.solGrant.isNone && b.prnGrant.isNone

/-- The quiet window condition for a printer grant made now (R161): while quiet demand is raised, the present moment lies outside
every conversion window and the grant ends no later than the opening of the next one. A trigger instant is outside once its sample has
been handled, for the trigger's own test (R161) and for any other test made then (DESIGN CHOICE, log 54). -/
def quietAllows (c : Clock) (quiet : Bool) (duration : Nat) : Bool :=
  !quiet || (((c.phase == 0 && c.sampled) || (0 < c.phase && c.phase ≤ 6000)) && c.phase + duration ≤ 6000)

/-- The amount of the drawer's SOLENOID request or grant (R164). -/
def Supply.solenoidMa (b : Supply) : Nat :=
  match b.solRequest, b.solGrant with
  | some r, _ => r.amount
  | none, some g => g.amount
  | none, none => 0

/-- The strobe allowance (R164): the budget in force less the SOLENOID amount while the drawer is WAIT_GRANT or PULSING. -/
def strobeAllowance (s : State) : Nat :=
  s.supply.budget - (if s.drawer.state = .waitGrant ∨ s.drawer.state = .pulsing then s.supply.solenoidMa else 0)

/-- The allowance of the line in production is formed again, before its last shot has been requested (R164). -/
def reformAllowance (s : State) : State :=
  s.modPrinter fun b => { b with line := b.line.map fun l =>
    if l.unfired = 0 then l else { l with allowance := strobeAllowance s } }

/-- A printer request arrives at the arbiter; the caller makes the grant test. -/
def placeRequest (r : Request) (s : State) : State := s.modSupply fun b => { b with prnRequest := some r }

/-- The strobe time of a line (R168): the one computed when its strobe phase began, and until then the one of the head temperature and the
Strobe Table as they stand, for the voltage sampled at its compose step. -/
def strobeOf (s : State) (l : Line) : Nat := l.strobe.getD (strobeTime (baseTime s.mgmt.strobes s.printer.temp) l.volts)

/-- The next shot of the dots not yet requested is packed against the allowance and requested, if every unit fits (R166); it is then the
line's shot outstanding. The first shot begins the strobe phase, which fixes the strobe time of the line (R166, R168, log 25). -/
def requestShot (l : Line) (s : State) : State :=
  match nextShot? l.allowance l.iDot l.unfired with
  | none => s
  | some shot =>
    placeRequest ⟨.strobe, dotsCurrent l.iDot shot, strobeOf s l⟩
      (s.modPrinter fun b =>
        { b with line := some { l with unfired := l.unfired &&& ~~~shot, shot := some shot, strobe := some (strobeOf s l) } })

/-- The shot that was fired has ended with its grant (R146). -/
def endShot (s : State) : State :=
  s.modPrinter fun b => { b with line := b.line.map fun l => { l with shot := none } }

/-- The dots that the head heats now (R146): those of the line's shot, for the life of its STROBE grant. -/
def heatedDots (s : State) : Dots :=
  if s.supply.prnGrant.any fun g => g.kind == .strobe then (s.printer.line.bind Line.shot).getD 0 else 0

/-- Whether a line has a request or a grant outstanding, or is at its step (R146). -/
def lineBusy (s : State) (l : Line) : Bool := s.supply.prnRequest.isSome || s.supply.prnGrant.isSome || l.stepping

/-- A line that waits for its allowance has it formed again, and its next shot is requested if it now fits (R164, R166). -/
def repackLine (s : State) : State :=
  let s' := reformAllowance s
  match s'.printer.line with
  | none => s'
  | some l => if lineBusy s' l || l.unfired == 0 then s' else requestShot l s'

/-- The solenoid is granted (R130): the drawer becomes PULSING for drawer_pulse_ms, taken now (log 16), a DRAWER_STATE report is formed,
and a line that waits for its allowance is packed again; the printer's part of the same test follows (R160, R164, R166). -/
def startPulse (r : Request) (s : State) : State :=
  let ms := s.mgmt.params.drawerPulseMs
  let s' := s.modSupply fun b =>
    { b with solRequest := none, solGrant := some ⟨.solenoid, r.amount, s.clock.instant, ms * 1000⟩ }
  let s'' := s'.modDrawer fun b =>
    { b with state := .pulsing, openedMark := false, pulseEnd := s.clock.laneTime + BitVec.ofNat 32 ms }
  repackLine (formDrawerState s'')

/-- The solenoid's part of a grant test (R160). -/
def grantSolenoid (s : State) : State :=
  match s.supply.solRequest with
  | none => s
  | some r => if s.supply.activeMa + r.amount ≤ s.supply.budget then startPulse r s else s

/-- A printer request is granted (R159, R152): at a CUTTER grant the cutter drive begins, and the home switch counts as having
read AWAY if it reads AWAY now. -/
def startPrinterGrant (r : Request) (s : State) : State :=
  let s' := s.modSupply fun b =>
    { b with prnRequest := none, prnGrant := some ⟨r.kind, r.amount, s.clock.instant, r.duration⟩ }
  if r.kind = .cutter then s'.modPrinter fun b => { b with awaySeen := b.cutter == .away } else s'

/-- The printer's part of a grant test, with the reservation for a waiting solenoid (R160) and the quiet window condition (R161). -/
def grantPrinter (s : State) : State :=
  match s.supply.prnRequest with
  | none => s
  | some r =>
    if s.supply.activeMa + r.amount + (s.supply.solRequest.map Request.amount).getD 0 ≤ s.supply.budget
        ∧ quietAllows s.clock s.supply.quiet r.duration then
      startPrinterGrant r s
    else s

/-- The grant test (R160): nothing in LOW_SUPPLY; otherwise the solenoid and then the printer. -/
def grantTest (s : State) : State := if s.supply.low then s else grantPrinter (grantSolenoid s)

/-! ## Quiet demand (R161) -/

/-- Quiet demand follows the head of the weigh request queue (R47, R161): it is raised at the arbiter once no printer grant is
active, and when the engine drops it, it drops at once and a grant test follows. -/
def syncQuiet (s : State) : State :=
  if s.scale.queue.isEmpty then
    if s.supply.quiet then grantTest (s.modSupply fun b => { b with quiet := false }) else s
  else if s.supply.prnGrant.isNone then s.modSupply fun b => { b with quiet := true }
  else s

/-! ## The steps of a dot line on the arbiter (R146) -/

/-- The MOTOR request of a line's step: the lesser of motor_current_ma and the budget in force, for 1,500 µs (R158). -/
def motorRequest (s : State) : Request := ⟨.motor, min s.mgmt.params.motorCurrentMa s.supply.budget, 1500⟩

/-- The CUTTER request: the lesser of cutter_current_ma and the budget in force, for 500 ms (R158). -/
def cutterRequest (s : State) : Request := ⟨.cutter, min s.mgmt.params.cutterCurrentMa s.supply.budget, 500000⟩

/-- The strobe phase of a line ends (R145): the tokens of the bands whose first line it is become PRINTING. -/
def markPrinting (slot : Nat) (s : State) : State :=
  s.modSales fun b => b.update slot fun x =>
    x.mapTokens (fun t => t.state == .queued && s.printer.overlays.any fun o => o.token == t.number && o.remaining == 24)
      fun t => { t with state := .printing }

/-- A line that has no request outstanding goes on (R146, R166): the next shot is requested if every unit fits the allowance; with no
dots left, the strobe phase ends and the step is requested. The caller makes the grant test. -/
def advanceLine (s : State) : State :=
  match s.printer.line with
  | none => s
  | some l =>
    if lineBusy s l then s
    else if l.unfired = 0 then
      placeRequest (motorRequest s)
        ((markPrinting l.slot s).modPrinter fun b => { b with line := some { l with stepping := true } })
    else requestShot l s

/-- The drawer has entered or left WAIT_GRANT or PULSING, or the budget in force has changed (R164, R166): the allowance is formed
again, a line that waited for it goes on, and a grant test is made. -/
def allowanceChanged (s : State) : State := grantTest (advanceLine (reformAllowance s))

/-! ## The budget (R157) -/

/-- A waiting CUTTER or MOTOR request is formed anew against the budget in force (R158, log 39); a STROBE keeps its amount (R166). -/
def reformPrinterRequest (s : State) : State :=
  match s.supply.prnRequest.map Request.kind with
  | some .motor => placeRequest (motorRequest s) s
  | some .cutter => placeRequest (cutterRequest s) s
  | _ => s

/-- The SOLENOID request (R129, R158): the lesser of drawer_current_ma and the budget in force, for drawer_pulse_ms. -/
def solenoidRequest (s : State) : Request :=
  ⟨.solenoid, min s.mgmt.params.drawerCurrentMa s.supply.budget, s.mgmt.params.drawerPulseMs * 1000⟩

/-- A waiting SOLENOID request is formed again in place (R129). -/
def reformSolenoid (s : State) : State :=
  s.modSupply fun b => { b with solRequest := b.solRequest.map fun _ => solenoidRequest s }

/-- The budget in force becomes a value (R157): the waiting requests are formed again, and the shots of a line not yet fired are
packed again. The caller makes the grant test. -/
def setBudget (mA : Nat) (s : State) : State :=
  let s' := s.modSupply fun b => { b with budget := mA, pendingBudget := none }
  if mA = s.supply.budget then s' else reformAllowance (reformPrinterRequest (reformSolenoid s'))

/-- With no grant active, a pending budget takes effect (R157). -/
def takePendingBudget (s : State) : State :=
  match s.supply.pendingBudget with
  | some mA => if s.supply.noGrant then setBudget mA s else s
  | none => s

/-! ## The shock hold (R4) -/

/-- A drawer closing or a pulse end: shock hold runs until 300 ms from now. -/
def startShock (s : State) : State := s.modScale fun b => { b with shockEnd := some (s.clock.laneTime + 300) }

/-- A grant or a shock hold ends now: it disturbs the conversion window in which it ends (R3, log 36). -/
def markDisturbed (s : State) : State :=
  if s.clock.inWindow then s.modScale fun b => { b with disturbed := true } else s

end Sys2Proof.Machine
end

