-- ==== Sys2Proof/Machine/Operands.lean ====
section
/-! DEFINITION. Every operand form that a command carries as characters: the enumerations (13.3), the entries of the seven tables
and the line records (13.5). A reader answers none for a value outside what the spec gives. -/

namespace Sys2Proof.Machine

/-! ## Enumerations -/

/-- A tender kind (R114, 13.3). -/
def readTenderKind (b : Byte) : Option TenderKind :=
  match b.toNat with
  | 0 => some .cash | 1 => some .card | 2 => some .voucher | _ => none

/-- An overlay format (R140, 13.3). -/
def readFormat (b : Byte) : Option OverlayFormat :=
  match b.toNat with
  | 0 => some .kg3 | 1 => some .g0 | _ => none

/-- A lamp value (R174, 13.3). -/
def readLamp (n : Nat) : Option LampSetting :=
  match n with
  | 0 => some .off | 1 => some .on | 2 => some .blink | _ => none

/-- A reaction source (R170, 13.3). -/
def readSource (b : Byte) : Option SourceEvent :=
  match b.toNat with
  | 0 => some .scaleZero | 1 => some .scaleOver | 2 => some .weightCaptured | 3 => some .weighTimeout
  | 4 => some .scanRejected | 5 => some .scanBlocked | 6 => some .cardOk | 7 => some .cardError
  | 8 => some .drawerOpened | 9 => some .drawerOverdue | 10 => some .drawerClosed | 11 => some .drawerJammed
  | 12 => some .paperOut | 13 => some .paperNearEnd | 14 => some .receiptCut | 15 => some .saleSettled
  | 16 => some .lowSupply | 17 => some .supplyOk | _ => none

/-- A reaction action with its argument (R170): the argument must lie within the values of the action. -/
def readAction (action argument : Byte) : Option Action :=
  let n := argument.toNat
  match action.toNat with
  | 0 => (readLamp n).map .lampA
  | 1 => (readLamp n).map .lampB
  | 2 => if 1 ≤ n ∧ n ≤ 20 then some (.beep n) else none
  | 3 => if n = 0 then some .holdScanner else none
  | 4 => if n = 0 then some .releaseScanner else none
  | 5 => if n = 0 then some .holdSwipe else none
  | 6 => if n = 0 then some .releaseSwipe else none
  | _ => none

/-- An item class of a table entry; OTHER stands in reports only (R66, 13.3). -/
def readItemClass (b : Byte) : Option ItemClass :=
  match b.toNat with
  | 0 => some .ordinary | 1 => some .weighed | 2 => some .embedded | 3 => some .blocked | _ => none

/-- A card class of a table entry; UNKNOWN stands in reports only (R97, 13.3). -/
def readCardClass (b : Byte) : Option CardClass :=
  match b.toNat with
  | 0 => some .payment | 1 => some .loyalty | 2 => some .gift | 3 => some .staff | _ => none

/-- A mask rule: true for CLEAR, false for DROP or MASK (R99, 13.3). -/
def readRule (b : Byte) : Option Bool :=
  match b.toNat with
  | 0 => some true | 1 => some false | _ => none

/-! ## Digits -/

/-- Whether a character is a digit 0 to 9. -/
def isDigit (b : Byte) : Bool := 0x30 ≤ b.toNat && b.toNat ≤ 0x39

/-- The value of a digit character. -/
def digitOf (b : Byte) : Nat := b.toNat - 0x30

/-- The character of a digit. -/
def digitChar (n : Nat) : Byte := BitVec.ofNat 8 (0x30 + n)

/-- Digits read as one unsigned decimal number. -/
def decimal (ds : List Nat) : Nat := ds.foldl (fun n d => n * 10 + d) 0

/-! ## Table geometry (12.6, 13.5) -/

/-- The lowest index of a table. -/
def lowestIndex (table : Nat) : Nat := if table = 2 then 1 else 0

/-- The highest index of a table. -/
def highestIndex (table : Nat) : Nat :=
  match table with
  | 1 => 63 | 2 => 15 | 3 => 31 | 4 => 3 | 5 => 15 | 6 => 7 | _ => 15

/-- The most entries of one Load Entries. -/
def entriesPerLoad (table : Nat) : Nat :=
  match table with
  | 1 => 8 | 2 => 15 | 3 => 16 | 4 => 4 | 5 => 5 | 6 => 8 | _ => 16

/-- The characters of one entry. -/
def entryBytes (table : Nat) : Nat :=
  match table with
  | 1 => 19 | 2 => 4 | 3 => 14 | 4 => 6 | 5 => 36 | 6 => 2 | _ => 3

/-- The capacity of a table (R187): its count of indices. -/
def tableCapacity (table : Nat) : Nat := highestIndex table + 1 - lowestIndex table

/-! ## Table entries -/

/-- An entry of the Item Class Table, with the field ranges of R66; padding beyond the prefix is ignored (R191). -/
def readItem : List Byte → Option ItemEntry
  | n :: rest =>
    let lead := (rest.take 12).take n.toNat
    match rest.drop 12 with
    | [codeLength, itemClass, tareClass, fieldStart, fieldLength, fieldKind] =>
      match readItemClass itemClass with
      | none => none
      | some c =>
        if 1 ≤ n.toNat ∧ n.toNat ≤ 12 ∧ lead.all isDigit ∧ codeLength.toNat ∈ [0, 8, 12, 13] ∧ tareClass.toNat ≤ 15
            ∧ 1 ≤ fieldStart.toNat ∧ fieldStart.toNat ≤ 12 ∧ 1 ≤ fieldLength.toNat ∧ fieldLength.toNat ≤ 6
            ∧ fieldKind.toNat ≤ 1 then
          some { lead := lead, codeLength := codeLength.toNat, itemClass := c, tareClass := tareClass.toNat,
                 fieldStart := fieldStart.toNat, fieldLength := fieldLength.toNat,
                 fieldKind := if fieldKind.toNat = 0 then .price else .weightG }
        else none
    | _ => none
  | [] => none

/-- An entry of the Tare Table: a mass in grams, signed as masses are (R58, R190). -/
def readTare : List Byte → Option Int
  | [a, b, c, d] => some (join32 a b c d).toInt
  | _ => none

/-- An entry of the Card Class Table (R97): two prefixes of exactly six digits. -/
def readCard (bytes : List Byte) : Option CardEntry :=
  let low := bytes.take 6
  let high := (bytes.drop 6).take 6
  match bytes.drop 12 with
  | [c, p] =>
    match readCardClass c with
    | none => none
    | some cls =>
      if low.all isDigit ∧ high.all isDigit ∧ p.toNat ≤ 3 then
        some { low := decimal (low.map digitOf), high := decimal (high.map digitOf), cardClass := cls, profile := p.toNat }
      else none
  | _ => none

/-- An entry of the Mask Profile Table (R99). -/
def readMask : List Byte → Option MaskEntry
  | [first, last, e, s, d, n] =>
    match readRule e, readRule s, readRule d, readRule n with
    | some e, some s, some d, some n =>
      if first.toNat ≤ 8 ∧ last.toNat ≤ 4 then
        some { keepFirst := first.toNat, keepLast := last.toNat, expiryClear := e, serviceClear := s,
               discretionaryClear := d, numberClear := n }
      else none
    | _, _, _, _ => none
  | _ => none

/-- The rows of a glyph: two rows of 12 bits in three characters, left column first (R141, 13.5). -/
def readRows : List Byte → List GlyphRow
  | a :: b :: c :: rest => (a ++ b.extractLsb' 4 4 : BitVec 12) :: (b.extractLsb' 0 4 ++ c : BitVec 12) :: readRows rest
  | _ => []

/-- An entry of the Glyph Table: 24 rows (R141). -/
def readGlyph (bytes : List Byte) : Option (List GlyphRow) := if bytes.length = 36 then some (readRows bytes) else none

/-- An entry of the Strobe Table: 100 to 2,000 µs (R167). -/
def readStrobe : List Byte → Option Nat
  | [a, b] => let t := (join16 a b).toNat; if 100 ≤ t ∧ t ≤ 2000 then some t else none
  | _ => none

/-- An entry of the Reaction Table (R170). -/
def readReaction : List Byte → Option ReactionEntry
  | [s, a, n] =>
    match readSource s, readAction a n with
    | some source, some action => some ⟨source, action⟩
    | _, _ => none
  | _ => none

/-- The characters of consecutive entries of one size. -/
def chunks (size : Nat) : Nat → List Byte → List (List Byte)
  | 0, _ => []
  | n + 1, bytes => bytes.take size :: chunks size n (bytes.drop size)

/-- Reads every entry (R185), or gives the position of the first that fails, counting the first as 1 (DESIGN CHOICE, log 23). -/
def readAll {E : Type} (read : List Byte → Option E) : Nat → List (List Byte) → Except Nat (List E)
  | _, [] => .ok []
  | position, bytes :: rest =>
    match read bytes with
    | none => .error position
    | some e =>
      match readAll read (position + 1) rest with
      | .ok es => .ok (e :: es)
      | .error p => .error p

/-! ## Line records (R139, 13.5) -/

/-- A line record as it stands in a frame, before the record tests. -/
inductive RawRecord where
  | raster (dots : Dots)
  | feed (n : Nat)
  | overlay (token start : Nat) (format : Byte)
deriving DecidableEq, Repr

/-- The dots of one character of a RASTER record, column c in bit 7 (13.5). -/
def byteDots (b : Byte) (column : Nat) : Dots :=
  (List.range 8).foldl (fun dots k => if b.getMsbD k then dots ||| (1#384 <<< (column + k)) else dots) 0#384

/-- The dots of a RASTER record: column 0 in bit 7 of the first character (13.5). -/
def rasterDots : Nat → List Byte → Dots
  | _, [] => 0
  | column, b :: rest => byteDots b column ||| rasterDots (column + 8) rest

/-- Reads the first record of a list of characters and gives what follows it; none when the kind is unknown or the characters end
inside a field (R140, R191). -/
def readRecord : List Byte → Option (RawRecord × List Byte)
  | [] => none
  | kind :: rest =>
    match kind.toNat with
    | 0 => if 48 ≤ rest.length then some (.raster (rasterDots 0 (rest.take 48)), rest.drop 48) else none
    | 1 =>
      match rest with
      | n :: rest' => some (.feed n.toNat, rest')
      | [] => none
    | 2 =>
      match rest with
      | a :: b :: c :: d :: f :: rest' => some (.overlay (join16 a b).toNat (join16 c d).toNat f, rest')
      | _ => none
    | _ => none

/-! ## Parameters (12.5, R184) -/

/-- The value that Set Parameter stores for a parameter number, brought into its range; none for a number that names no
parameter. -/
def storedValue (number value : Nat) : Option Nat :=
  match number with
  | 1 => some (clamp 1 60 value)
  | 2 => some (clamp 0 1 value)
  | 3 => some (clamp 0 1 value)
  | 4 => some (clamp 30 250 value)
  | 5 => some (clamp 200 2500 value)
  | 6 => some (if value = 0 then 0 else clamp 5 300 value)
  | 7 => some (clamp 0 1 value)
  | 8 => some (clamp 0 1 value)
  | 9 => some (clamp 1000 4000 value)
  | 10 => some (clamp 100 1000 value)
  | 11 => some (clamp 200 1500 value)
  | 12 => some (clamp 0 255 value)
  | 13 => some (if value < 24000 then 9600 else 38400)
  | _ => none

/-- The stored value of a parameter by its number. -/
def Params.get? (p : Params) (number : Nat) : Option Nat :=
  match number with
  | 1 => some p.weighWaitS
  | 2 => some p.zeroTrack
  | 3 => some p.liveWeight
  | 4 => some p.drawerPulseMs
  | 5 => some p.drawerCurrentMa
  | 6 => some p.drawerLeftOpenS
  | 7 => some p.noSaleAllowed
  | 8 => some p.cardTenderRequiresRef
  | 9 => some p.supplyBudgetMa
  | 10 => some p.motorCurrentMa
  | 11 => some p.cutterCurrentMa
  | 12 => some p.cutFeedLines
  | 13 => some p.scannerRate
  | _ => none

/-- The parameters with one of them replaced. -/
def Params.set (p : Params) (number value : Nat) : Params :=
  match number with
  | 1 => { p with weighWaitS := value }
  | 2 => { p with zeroTrack := value }
  | 3 => { p with liveWeight := value }
  | 4 => { p with drawerPulseMs := value }
  | 5 => { p with drawerCurrentMa := value }
  | 6 => { p with drawerLeftOpenS := value }
  | 7 => { p with noSaleAllowed := value }
  | 8 => { p with cardTenderRequiresRef := value }
  | 9 => { p with supplyBudgetMa := value }
  | 10 => { p with motorCurrentMa := value }
  | 11 => { p with cutterCurrentMa := value }
  | 12 => { p with cutFeedLines := value }
  | 13 => { p with scannerRate := value }
  | _ => p

end Sys2Proof.Machine
end

