-- ==== Sys2Proof/Machine/Weigh.lean ====
section
/-! DEFINITION. Weigh requests (03): numbers, creation, the head and its service, endings, and the commands and the timeout over
them. -/

namespace Sys2Proof.Machine

/-! ## Numbers and creation -/

/-- The token numbers in use (R43): those of waiting requests, of WEIGHT reports held in the outcome list, and of the tokens of
either slot. -/
def numbersInUse (s : State) : List Nat :=
  s.scale.queue.map WeighRequest.number ++ s.scale.outcomes.map WeightReport.token
    ++ (s.sales.slot0.map fun x => x.tokens.map Token.number).getD []
    ++ (s.sales.slot1.map fun x => x.tokens.map Token.number).getD []

/-- The number after a number: from 65,535 to 1, skipping 0 (R43, R106). -/
def nextNumber (n : Nat) : Nat := if n = 65535 then 1 else n + 1

/-- The first number not in use from n on, tried at most `fuel` times (R43, R106). -/
def firstFree (used : List Nat) : Nat → Nat → Nat
  | 0, n => n
  | fuel + 1, n => if used.contains n then firstFree used fuel (nextNumber n) else n

/-- The number that the token number counter gives now (R43): with m numbers in use, one of m + 1 tries is free. -/
def offeredToken (s : State) : Nat := firstFree (numbersInUse s) ((numbersInUse s).length + 1) s.sales.nextToken

/-- The capacity test of R44: waiting requests and held reports number fewer than 4 together. -/
def weighRoom (s : State) : Bool := s.scale.queue.length + s.scale.outcomes.length < 4

/-- The token list test of R44: the sale's tokens and waiting requests number fewer than 64. -/
def tokenRoom (s : State) (x : Sale) : Bool := x.tokens.length + (s.scale.queue.countP fun r => r.sale == x.number) < 64

/-! ## Endings -/

/-- The tare of a tare class in grams (R48, R58): 0 for class 0; otherwise the entry of a READY Tare Table, if it holds one. -/
def tareOf? (s : State) (tareClass : Nat) : Option Int :=
  if tareClass = 0 then some 0 else if s.mgmt.tares.state = .ready then s.mgmt.tares.at? tareClass else none

/-- Whether the engine is in FAULT, with either cause (R15). -/
def Engine.isFault : Engine → Bool
  | .faultConverter | .faultNotCalibrated => true
  | _ => false

/-- The WEIGHT report of a request that ends now (R53). -/
def weightReportOf (s : State) (r : WeighRequest) (outcome : WeighOutcome) (figures : Option Figures) : WeightReport :=
  { token := r.number, sale := r.sale, source := r.source, tareClass := r.tareClass, outcome := outcome,
    endTime := s.clock.laneTime, figures := figures, itemCode := r.itemCode }

/-- A request ends with an outcome and forms its report (R53, R54); removing it from the queue is the caller's part. -/
def endRequest (r : WeighRequest) (outcome : WeighOutcome) (s : State) : State :=
  offerWeight (weightReportOf s r outcome none) s

/-- The outcome with which a request ends at once on becoming head, if it does (R48): the tare first, then the fault. -/
def headOutcome (s : State) (r : WeighRequest) : Option WeighOutcome :=
  if (tareOf? s r.tareClass).isNone then some .tareUnavailable
  else if s.scale.engine.isFault then some .fault
  else none

/-- The first of these requests becomes head now (R47), or ends at once and leaves its place to the next (R48). -/
def seatHead : List WeighRequest → State → State
  | [], s => s.modScale fun b => { b with queue := [] }
  | r :: rest, s =>
    match headOutcome s r with
    | some o => seatHead rest (endRequest r o s)
    | none => s.modScale fun b => { b with queue := { r with headTime := some s.clock.laneTime } :: rest }

/-- The requests behind a head that left close up: the next becomes head, and quiet demand follows the queue (R47). -/
def nextHead (rest : List WeighRequest) (s : State) : State := syncQuiet (seatHead rest s)

/-- A request is created for a sale (R43, R44, R47): it takes its number and joins the tail, or becomes head of an empty queue. -/
def createRequest (slot : Nat) (x : Sale) (source : Source) (code : Option (List Byte)) (tareClass : Nat) (s : State) : State :=
  let number := offeredToken s
  let r : WeighRequest := ⟨number, slot, x.number, source, code, tareClass, none⟩
  let s' := s.modSales fun b => { b with nextToken := nextNumber number }
  if s.scale.queue.isEmpty then nextHead [r] s' else s'.modScale fun b => { b with queue := b.queue ++ [r] }

/-- Every request that a test picks out ends with an outcome, in queue order (R51). -/
def endAll (outcome : WeighOutcome) : List WeighRequest → State → State
  | [], s => s
  | r :: rest, s => endAll outcome rest (endRequest r outcome s)

/-- The engine has entered FAULT: every waiting request ends with outcome FAULT (R51). -/
def endAllFault (s : State) : State :=
  syncQuiet ((endAll .fault s.scale.queue s).modScale fun b => { b with queue := [] })

/-- Ends the waiting requests that a test picks out; the others close up, and if the head was among those ended, the oldest that
remains becomes head now (R51). -/
def endWhere (test : WeighRequest → Bool) (outcome : WeighOutcome) (s : State) : State :=
  let kept := s.scale.queue.filter fun r => !test r
  let s' := endAll outcome (s.scale.queue.filter test) s
  match s.scale.queue with
  | [] => s
  | r :: _ => if test r then nextHead kept s' else s'.modScale fun b => { b with queue := kept }

/-! ## The timeout (R50) -/

/-- Whether the head's wait has reached weigh_wait_s. -/
def dueTimeout (s : State) : Bool :=
  match s.scale.queue.head?.bind WeighRequest.headTime with
  | some t => s.mgmt.params.weighWaitS * 1000 ≤ s.clock.millisSince t
  | none => false

/-- The head, if there is one, has been seated by an expiry of this moment: the evaluation that falls together with the expiry passes it
over (R50, log 52). -/
def passOverHead (s : State) : State :=
  s.modScale fun b => { b with passedOver := b.queue.head?.map WeighRequest.number }

/-- A head whose time is up ends with outcome TIMEOUT (R50), the event is raised, and the next head is not tested at an evaluation of the
same moment; otherwise nothing happens. -/
def timeoutHead (s : State) : State :=
  match s.scale.queue with
  | [] => s
  | r :: rest =>
    if dueTimeout s then passOverHead (nextHead rest (raiseEvent .weighTimeout (endRequest r .timeout s))) else s

/-- WEIGH_TIMEOUT. -/
def execWeighTimeout (s : State) : Host.Outcome State Fault Refusal := run timeoutHead s

/-! ## Commands -/

/-- Request Weight (R46). -/
def cmdRequestWeight (tareClass : Byte) (sale : BitVec 16) : Command := fun s =>
  if 15 < tareClass.toNat then refuse .badArg s
  else match s.sales.find? sale.toNat with
    | none => refuse .noSale s
    | some (slot, x) =>
      if x.state ≠ .opened then refuse .state s
      else if !weighRoom s || !tokenRoom s x then refuse .noRoom s
      else acceptWith (.token (offeredToken s)) (createRequest slot x .host none tareClass.toNat s)

/-- REQUEST_WEIGHT. -/
def execRequestWeight (tag tareClass : Byte) (sale : BitVec 16) (s : State) : Host.Outcome State Fault Refusal :=
  runCommand (encodeFrame (.requestWeight tag tareClass sale)) (cmdRequestWeight tareClass sale) s

/-- Whether a number names a token in either sale's token list. -/
def namesToken (s : State) (number : Nat) : Bool :=
  [s.sales.slot0, s.sales.slot1].any fun o => match o with
    | some x => x.tokens.any fun t => t.number == number
    | none => false

/-- Cancel Weigh Request (R52). -/
def cmdCancelWeighRequest (token : BitVec 16) : Command := fun s =>
  let n := token.toNat
  if s.scale.queue.any fun r => r.number == n then
    accept (endWhere (fun r => r.number == n) .cancelled s)
  else if namesToken s n then refuse .already s
  else refuse .badToken s

/-- CANCEL_WEIGH_REQUEST. -/
def execCancelWeighRequest (tag : Byte) (token : BitVec 16) (s : State) : Host.Outcome State Fault Refusal :=
  runCommand (encodeFrame (.cancelWeighRequest tag token)) (cmdCancelWeighRequest token) s

end Sys2Proof.Machine
end

