-- ==== Sys2Proof/Machine/Measure.lean ====
section
/-! DEFINITION. The measurement path (01): from the raw count to the published load condition, the zero offset, capture, the engine
states and the converter fault. -/

namespace Sys2Proof.Machine

/-! ## From the filtered count to the gross weight (1.3) -/

/-- The line through two points of the curve at a relative count, rounded to nearest mg (R7). -/
def interpolate (x0 m0 x1 m1 : Nat) (x : Int) : Int :=
  (m0 : Int) + roundDiv ((x - (x0 : Int)) * ((m1 : Int) - (m0 : Int))) (x1 - x0)

/-- The curve from a point on: the segment to the next point serves every relative count below that point, and the last segment
serves the rest (R7). -/
def curveFrom (x0 m0 : Nat) : List (Nat × Nat) → Int → Int
  | [], _ => m0
  | [(x1, m1)], x => interpolate x0 m0 x1 m1 x
  | (x1, m1) :: next :: rest, x =>
    if x < (x1 : Int) then interpolate x0 m0 x1 m1 x else curveFrom x1 m1 (next :: rest) x

/-- m_cal in mg for a filtered count (R7). -/
def CalRecord.mCal (c : CalRecord) (f : Int) : Int := curveFrom 0 0 c.points (f - c.cZero)

/-- The upper interval d_top in grams (R10). -/
def CalRecord.dTop (c : CalRecord) : Nat := if c.d2 = 0 then c.d1 else c.d2

/-- The scale interval d for a gross value (R10). -/
def CalRecord.interval (c : CalRecord) (gross : Int) : Nat :=
  if c.d2 = 0 then c.d1 else if gross ≤ ((c.range1 * 1000 : Nat) : Int) then c.d1 else c.d2

/-- The indicated gross weight G in grams (R11). -/
def CalRecord.indicated (c : CalRecord) (gross : Int) : Int :=
  (c.interval gross : Int) * roundDiv gross (1000 * c.interval gross)

/-- Whether a gross value is over the upper limit (R12). -/
def CalRecord.isOver (c : CalRecord) (gross : Int) : Bool := (((c.max + 9 * c.dTop) * 1000 : Nat) : Int) < gross

/-- Whether a gross value is under the lower limit (R12). -/
def CalRecord.isUnder (c : CalRecord) (gross : Int) : Bool := gross < -((20 * c.d1 * 1000 : Nat) : Int)

/-- The largest less the smallest of a window (R13, R31). -/
def spread : List Int → Int
  | [] => 0
  | a :: rest => rest.foldl max a - rest.foldl min a

/-! ## The calibration limits (R28) -/

/-- An interval value in grams (R28). -/
def isInterval (d : Nat) : Bool := [1, 2, 5, 10, 20, 50].contains d

/-- Every capacity condition of R28, the capacity ratio included. -/
def CalRecord.capacityOk (c : CalRecord) : Bool :=
  1000 ≤ c.max && c.max ≤ 60000 && isInterval c.d1 && (c.d2 == 0 || (isInterval c.d2 && c.d1 < c.d2))
    && (if c.d2 = 0 then c.range1 == 0
        else c.range1 % c.d1 == 0 && c.d1 ≤ c.range1 && c.range1 < c.max && c.range1 ≤ 6000 * c.d1)
    && c.max ≤ 6000 * c.dTop

/-- The point counts strictly increase, the first being at least 1 (R38, check 3). -/
def CalRecord.countsRise (c : CalRecord) : Bool := strictlyRising (0 :: c.points.map Prod.fst)

/-- The point masses strictly increase, the first being at least 1 (R38, check 4). -/
def CalRecord.massesRise (c : CalRecord) : Bool := strictlyRising (0 :: c.points.map Prod.snd)

/-- Whether the working calibration is usable (R8): a stored record always is; an edit copy when its capacity values satisfy the
limits, it has a point, and its points rise. -/
def Scale.usable (b : Scale) : Bool :=
  match b.cal with
  | none => false
  | some c => !b.session || (c.capacityOk && !c.points.isEmpty && c.countsRise && c.massesRise)

/-- Whether filtered values continue along the path (R15, R8). -/
def Scale.pathRuns (b : Scale) : Bool :=
  b.usable && (b.engine == .initialZero || b.engine == .zeroError || b.engine == .measuring || b.engine == .calEdit)

/-- m_cal of the newest filtered value. -/
def Scale.mCal? (b : Scale) : Option Int :=
  match b.cal, b.newest with
  | some c, some f => some (c.mCal f)
  | _, _ => none

/-- The gross value of the most recent filtered value under the present zero offset and calibration (R9, R14). -/
def Scale.gross? (b : Scale) : Option Int := b.mCal?.map fun m => m - b.zMg

/-- Whether the load is stable (R13): 24 entries, their spread at most 1,000 × d for the interval of the newest entry. -/
def Scale.isStable (b : Scale) : Bool :=
  match b.cal, b.stability.getLast? with
  | some c, some newest => b.stability.length == 24 && spread b.stability ≤ ((1000 * c.interval newest : Nat) : Int)
  | _, _ => false

/-! ## Publication (1.4) -/

/-- The load condition and the indicated G (R14): the first case that holds. -/
def Scale.condition (b : Scale) : LoadCond × Option Int :=
  if b.engine.isFault || !b.usable then (.none, none)
  else match b.cal, b.gross? with
    | some c, some gross =>
      if c.isOver gross then (.over, none)
      else if c.isUnder gross then (.under, none)
      else if !b.isStable then (.motion, some (c.indicated gross))
      else if c.indicated gross = 0 then (.zero, some 0)
      else (.stable, some (c.indicated gross))
    | _, _ => (.none, none)

/-- The zero tracking run after an evaluation that publishes a condition (R20). -/
def zeroRunAfter (s : State) (load : LoadCond) : Option LaneTime :=
  if load = .zero ∧ s.scale.engine = .measuring ∧ s.mgmt.params.zeroTrack = 1 then
    some (s.scale.zeroRun.getD s.clock.laneTime)
  else none

/-- The event that a change of load condition raises (R26). -/
def raiseLoadEvent (before after : LoadCond) (s : State) : State :=
  if before = after then s
  else if after = .zero then raiseEvent .scaleZero s
  else if after = .over then raiseEvent .scaleOver s
  else s

/-- A load condition and its G are published: a ZERO sets the armed flag (R21), the zero tracking run follows the condition (R20), and the
events of R26 are raised. -/
def publishAs (after : LoadCond) (g : Option Int) (s : State) : State :=
  let s' := s.modScale fun b =>
    { b with load := after, shown := g, armed := b.armed || after == .zero, zeroRun := zeroRunAfter s after }
  let s'' := if s'.scale.armed = s.scale.armed then s' else formScaleState s'
  raiseLoadEvent s.scale.load after s''

/-- An evaluation publishes its load condition (R14). -/
def publish (s : State) : State := publishAs s.scale.condition.1 s.scale.condition.2 s

/-- The zero offset takes a value; the stability window is shifted with it (R9). The caller publishes. -/
def shiftZero (z : Int) (s : State) : State :=
  s.modScale fun b => { b with zMg := z, stability := b.stability.map fun e => e - (z - b.zMg) }

/-- A change of the zero offset (R9): the shift, a new evaluation of the load condition, and a SCALE_STATE report. -/
def changeZero (z : Int) (s : State) : State :=
  if z = s.scale.zMg then s else formScaleState (publish (shiftZero z s))

/-- The engine takes a state (R15): the zero tracking run stops (R20), the load condition is evaluated again and a SCALE_STATE report
is formed; on entry to FAULT every waiting request ends (R51). -/
def moveEngine (e : Engine) (s : State) : State :=
  let s' := formScaleState (publish (s.modScale fun b => { b with engine := e, zeroRun := none }))
  if e.isFault then endAllFault s' else s'

/-! ## What an evaluation compares -/

/-- Whether zero tracking is due (R20): the run has reached 1,000 ms at a load condition of ZERO. -/
def dueTracking (s : State) : Bool :=
  s.scale.engine == .measuring && s.mgmt.params.zeroTrack == 1 && s.scale.load == .zero
    && match s.scale.zeroRun with
      | some t => 1000 ≤ s.clock.millisSince t
      | none => false

/-- The zero tracking test (R20): the whole gross value is absorbed, or none and the limit flag is set; the run restarts. Where a gross
value in the upper range is absorbed from a window with a spread above 1,000×d1, the load that R13 and R14 then give is MOTION, which
stops the run (DESIGN CHOICE, log 42). -/
def trackZero (s : State) : State :=
  if dueTracking s then
    match s.scale.cal, s.scale.gross? with
    | some c, some gross =>
      let sum := s.scale.zMg + gross
      let s' := s.modScale fun b => { b with zeroRun := some s.clock.laneTime }
      if sum.natAbs ≤ 20 * c.max then changeZero sum (s'.modScale fun b => { b with trackLimit := false })
      else formScaleState
        (s'.modScale fun b => { b with trackLimit := true, flags := { b.flags with trackLimitHit := true } })
    | _, _ => s
  else s

/-- The zero is set to the m_cal of the newest filtered value (R18, R19): the armed flag is set and the limit flag cleared. -/
def takeZero (m : Int) (s : State) : State :=
  (shiftZero m s).modScale fun b => { b with armed := true, trackLimit := false }

/-- A zero just taken settles the load (R18, R19, R60): ZERO with a G of 0 is published in the same moment, whatever the shifted window
gives by R13 (DEDUCED, log 42), the zero tracking run restarts (R20), and a SCALE_STATE report is formed. -/
def settleZero (s : State) : State :=
  formScaleState (publishAs .zero (some 0) (s.modScale fun b => { b with zeroRun := none }))

/-- The initial zero test (R18), made when the load is stable in INITIAL_ZERO or ZERO_ERROR: passed, the zero is taken and settled and the
engine is MEASURING; failed, the engine is in ZERO_ERROR. -/
def initialZero (s : State) : State :=
  if (s.scale.engine = .initialZero ∨ s.scale.engine = .zeroError) ∧ s.scale.isStable then
    match s.scale.cal, s.scale.mCal? with
    | some c, some m =>
      if m.natAbs ≤ 100 * c.max then settleZero ((takeZero m s).modScale fun b => { b with engine := .measuring })
      else if s.scale.engine = .initialZero then moveEngine .zeroError s
      else s
    | _, _ => s
  else s

/-- The capture conditions of R49 on the evaluation just published, with the G that they allow. -/
def captureWeight? (s : State) : Option (CalRecord × Int) :=
  if s.scale.engine = .measuring ∧ s.scale.load = .stable ∧ s.scale.armed then
    match s.scale.cal, s.scale.shown with
    | some c, some g => if ((20 * c.d1 : Nat) : Int) ≤ g ∧ g ≤ (c.max : Int) then some (c, g) else none
    | _, _ => none
  else none

/-- The figures of a capture (R49): G, the interval of the newest gross value, the tare of the class and the net. -/
def figuresOf (s : State) (c : CalRecord) (g : Int) (tareClass : Nat) : Figures :=
  let t := if tareClass = 0 then 0 else (s.mgmt.tares.at? tareClass).getD 0
  { g := g, d := c.interval (s.scale.gross?.getD 0), t := t, n := g - t }

/-- The token of a captured request (R55). -/
def tokenOf (s : State) (r : WeighRequest) (f : Figures) : Token :=
  { number := r.number, sale := r.sale, itemCode := r.itemCode, tareClass := r.tareClass, figures := f,
    time := s.clock.laneTime, state := .captured }

/-- The head ends at a capture (R49): NET_NOT_POSITIVE without a token, or CAPTURED with its token in the sale's list, the armed flag
cleared and the event raised. The next request becomes head. The WEIGHT report is formed before the SCALE_STATE (log 47). -/
def capture (r : WeighRequest) (rest : List WeighRequest) (f : Figures) (s : State) : State :=
  if f.n ≤ 0 then nextHead rest (offerWeight (weightReportOf s r .netNotPositive (some f)) s)
  else
    let s1 := s.modSales fun b => b.update r.slot fun x => { x with tokens := x.tokens ++ [tokenOf s r f] }
    let s2 := offerWeight (weightReportOf s r .captured (some f)) (s1.modScale fun b => { b with armed := false })
    nextHead rest (formScaleState (raiseEvent .weightCaptured s2))

/-- The waiting head is tested for capture at an evaluation (R49), unless an expiry that falls together with it has seated that head (R50,
log 52). -/
def testCapture (s : State) : State :=
  match s.scale.queue, captureWeight? s with
  | r :: rest, some (c, g) =>
    if s.scale.passedOver = some r.number then s else capture r rest (figuresOf s c g r.tareClass) s
  | _, _ => s

/-- An evaluation (R14): publication, and then the comparisons of zero tracking, the initial zero and capture. -/
def evaluate (s : State) : State := testCapture (initialZero (trackZero (publish s)))

/-- The newest filtered value goes along the path, where the path runs, and the load condition is evaluated (R8, R13). -/
def passNewest (s : State) : State :=
  evaluate (if s.scale.pathRuns then
    match s.scale.gross? with
    | some gross => s.modScale fun b => { b with stability := windowPush 24 b.stability gross }
    | none => s
  else s)

/-- The working calibration has changed (R8): the stability window is emptied, and the last filtered value passes again. -/
def calChanged (s : State) : State := passNewest (s.modScale fun b => { b with stability := [] })

/-! ## The converter fault (R22, R23) -/

/-- The resume state that entry into FAULT(CONVERTER) records (R22). -/
def resumeAtFault (b : Scale) : Engine :=
  match b.engine, b.resume with
  | .measuring, _ => .measuring
  | .calEdit, _ => .calEdit
  | .warming, some e => e
  | .faultNotCalibrated, _ => .faultNotCalibrated
  | _, _ => .initialZero

/-- The engine enters FAULT(CONVERTER) (R22). -/
def enterConverterFault (s : State) : State :=
  moveEngine .faultConverter
    (s.modScale fun b => { b with resume := some (resumeAtFault b), noisyRun := 0, inRangeRun := 0 })

/-- Whether three consecutive rail samples stand outside FAULT(CONVERTER) (R22). -/
def dueFaultEntry (s : State) : Bool := 3 ≤ s.scale.railRun && s.scale.engine != .faultConverter

/-- CONVERTER_FAULT_ENTRY. -/
def execConverterFaultEntry (s : State) : Host.Outcome State Fault Refusal :=
  run (fun s => if dueFaultEntry s then enterConverterFault s else s) s

/-- The engine leaves FAULT(CONVERTER) into WARMING with its resume state kept (R23); the windows are emptied (R6, R13, R31). -/
def leaveConverterFault (s : State) : State :=
  moveEngine .warming
    (s.modScale fun b => { b with filter := [], stability := [], calWindow := [], newest := none })

/-- Whether sixteen consecutive in-range samples stand in FAULT(CONVERTER) (R23). -/
def dueFaultExit (s : State) : Bool := 16 ≤ s.scale.inRangeRun && s.scale.engine == .faultConverter

/-- CONVERTER_FAULT_EXIT. -/
def execConverterFaultExit (s : State) : Host.Outcome State Fault Refusal :=
  run (fun s => if dueFaultExit s then leaveConverterFault s else s) s

/-! ## Warming (R17) -/

/-- WARMING ends (R17, R23): the engine moves to INITIAL_ZERO, or to the resume state, which is cleared. -/
def endWarming (s : State) : State :=
  moveEngine (s.scale.resume.getD .initialZero) (s.modScale fun b => { b with resume := none })

/-- The filter window is full: its value F becomes the newest, feeds the calibration window while the seal reads closed (R31), ends
WARMING (R17) and goes along the path. -/
def takeFiltered (s : State) : State :=
  let f := roundDiv (s.scale.filter.foldl (· + ·) 0) 16
  let fed := s.modScale fun b =>
    { b with newest := some f
             calWindow := if s.store.sealSwitch = .closed then windowPush 24 b.calWindow f else b.calWindow }
  passNewest (if fed.scale.engine = .warming then endWarming fed else fed)

/-- WARMING_END: the filter window is full in WARMING. -/
def execWarmingEnd (s : State) : Host.Outcome State Fault Refusal :=
  run (fun s => if s.scale.engine = .warming ∧ s.scale.filter.length = 16 then takeFiltered s else s) s

/-! ## Starvation (R5) -/

/-- Starvation: the stability window and the calibration stability window are emptied (R5, R31), and the load condition is evaluated
again. -/
def starve (s : State) : State := evaluate (s.modScale fun b => { b with stability := [], calWindow := [] })

/-- STARVATION: the noisy run has reached 12. -/
def execStarvation (s : State) : Host.Outcome State Fault Refusal :=
  run (fun s => if 12 ≤ s.scale.noisyRun then starve s else s) s

/-! ## The sample (R2, R3) -/

/-- Whether a shock hold that ends at a lane time was active within the conversion window that closes now (R3, R4). -/
def holdTouches (now : LaneTime) (e : LaneTime) : Bool :=
  1 ≤ (e - (now - 2)).toNat && (e - (now - 2)).toNat ≤ 302

/-- Whether the sample of the trigger at this instant is noisy (R3). -/
def isNoisy (s : State) : Bool :=
  !s.supply.noGrant || s.scale.disturbed
    || match s.scale.shockEnd with
      | some e => holdTouches s.clock.laneTime e
      | none => false

/-- Whether a raw count stands at a rail (R2). -/
def isRail (raw : BitVec 24) : Bool := raw == 0x800000#24 || raw == 0x7FFFFF#24

/-- A rail sample (R2, step 1). -/
def railSample (s : State) : State :=
  let s' := s.modScale fun b => { b with railRun := b.railRun + 1, inRangeRun := 0 }
  if dueFaultEntry s' then enterConverterFault s' else s'

/-- An in-range sample in FAULT(CONVERTER) (R2, step 2). -/
def recoverySample (s : State) : State :=
  let s' := s.modScale fun b => { b with railRun := 0, inRangeRun := b.inRangeRun + 1 }
  if dueFaultExit s' then leaveConverterFault s' else s'

/-- A noisy sample (R2, step 3; R5): starvation comes when the noisy run reaches 12. -/
def noisySample (s : State) : State :=
  let s' := s.modScale fun b => { b with railRun := 0, noisyRun := b.noisyRun + 1 }
  if s'.scale.noisyRun = 12 then starve s' else s'

/-- An accepted sample (R2, step 4; R6). -/
def acceptedSample (raw : BitVec 24) (s : State) : State :=
  let s' := s.modScale fun b =>
    { b with railRun := 0, noisyRun := 0, filter := windowPush 16 b.filter raw.toInt }
  if s'.scale.filter.length = 16 then takeFiltered s' else s'

/-- The handling of one sample (R2). -/
def handleSample (raw : BitVec 24) (s : State) : State :=
  if isRail raw then railSample s
  else if s.scale.engine = .faultConverter then recoverySample s
  else if isNoisy s then noisySample s
  else acceptedSample raw s

/-! ## LIVE (R25) -/

/-- Whether a LIVE report is due at a trigger (R25). A memory emptied since the last trigger, power-on and the resets included, waits for
the next one: lane time 0 of a reset is no trigger (R1). -/
def dueLive (s : State) : Bool :=
  s.mgmt.params.liveWeight == 1 && !s.scale.liveWaits
    && match s.scale.liveMemory with
      | none => true
      | some m => (m.load != s.scale.load || m.g != s.scale.shown) && 250 ≤ s.clock.millisSince m.time

/-- The LIVE test of a trigger (R25). -/
def testLive (s : State) : State :=
  if dueLive s then
    (formLive s).modScale fun b => { b with liveMemory := some ⟨b.load, b.shown, s.clock.laneTime⟩ }
  else s

/-- LIVE_REPORT: the test is made at a trigger whose sample has been handled (R25, log 3). -/
def execLiveReport (s : State) : Host.Outcome State Fault Refusal :=
  run (fun s => if s.clock.phase = 0 ∧ s.clock.sampled then testLive s else s) s

/-- A trigger (R1, R2): its sample is handled, then the LIVE test is made, and the conversion window that closes admits the grants that
waited for it (R160, R161). -/
def takeSample (raw : BitVec 24) (s : State) : State :=
  let s' := (handleSample raw s).modClock fun c => { c with sampled := true }
  grantTest (testLive (s'.modScale fun b => { b with disturbed := false, liveWaits := false }))

/-- SAMPLE_TRIGGER: a raw count at a trigger instant; at any other moment no conversion is triggered. -/
def execSampleTrigger (raw : BitVec 24) (s : State) : Host.Outcome State Fault Refusal :=
  run (fun s => if s.clock.triggerDue then takeSample raw s else s) s

/-! ## Zero tracking, shock hold and Set Zero -/

/-- ZERO_TRACKING: the tracking test of an evaluation that publishes ZERO (R20). -/
def execZeroTracking (s : State) : Host.Outcome State Fault Refusal := run trackZero s

/-- Whether a running shock hold has reached its end (R4). -/
def dueShockEnd (s : State) : Bool :=
  match s.scale.shockEnd with
  | some e => reached s.clock.laneTime e
  | none => false

/-- The shock hold ends (R4). -/
def endShock (s : State) : State :=
  if dueShockEnd s then (markDisturbed s).modScale fun b => { b with shockEnd := none } else s

/-- SHOCK_HOLD_END. -/
def execShockHoldEnd (s : State) : Host.Outcome State Fault Refusal := run endShock s

/-- Set Zero (R19): its tests in order; accepted, the zero is taken and settled. -/
def cmdSetZero : Command := fun s =>
  if s.scale.engine ≠ .measuring ∨ ¬(s.scale.load = .zero ∨ s.scale.load = .stable) then refuse .state s
  else if !s.scale.queue.isEmpty then refuse .pendingWeigh s
  else match s.scale.cal, s.scale.mCal? with
    | some c, some m =>
      if m.natAbs ≤ 20 * c.max then accept (settleZero (takeZero m s)) else refuse .outOfRange s
    | _, _ => refuse .state s

/-- SET_ZERO. -/
def execSetZero (tag : Byte) (s : State) : Host.Outcome State Fault Refusal :=
  runCommand (encodeFrame (.setZero tag)) cmdSetZero s

end Sys2Proof.Machine
end

