-- ==== Sys2Proof/Machine/Record.lean ====
section
/-! DEFINITION. The calibration record image (13.6): 48 characters, high byte first, closed by the CRC of R28. -/

namespace Sys2Proof.Machine

/-- One point of the image: counts and mass, 4 bytes each. -/
def pointBytes (p : Nat × Nat) : List Byte := field32 p.1 ++ field32 p.2

/-- The points of the image: four places, those beyond k written as 0 (R191). -/
def pointsBytes (points : List (Nat × Nat)) : List Byte :=
  pointBytes ((points[0]?).getD (0, 0)) ++ pointBytes ((points[1]?).getD (0, 0))
    ++ pointBytes ((points[2]?).getD (0, 0)) ++ pointBytes ((points[3]?).getD (0, 0))

/-- The image less its CRC: offsets 0 to 45. -/
def CalRecord.body (c : CalRecord) : List Byte :=
  field16 c.max ++ [byteOf c.d1, byteOf c.d2] ++ field16 c.range1 ++ signed32 c.cZero ++ [byteOf c.points.length]
    ++ pointsBytes c.points ++ field16 c.counter ++ [flagByte c.restart]

/-- The image of a record as it stands in the block. -/
def CalRecord.image (c : CalRecord) : List Byte := c.body ++ be16 (crc16 c.body)

/-- A natural number of 2 bytes. -/
def nat16 (bytes : List Byte) : Nat :=
  match bytes with
  | [a, b] => (join16 a b).toNat
  | _ => 0

/-- A natural number of 4 bytes. -/
def nat32 (bytes : List Byte) : Nat :=
  match bytes with
  | [a, b, c, d] => (join32 a b c d).toNat
  | _ => 0

/-- A signed value of 4 bytes. -/
def int32 (bytes : List Byte) : Int :=
  match bytes with
  | [a, b, c, d] => (join32 a b c d).toInt
  | _ => 0

/-- The bytes of a field at an offset. -/
def fieldAt (bytes : List Byte) (offset size : Nat) : List Byte := (bytes.drop offset).take size

/-- The point of the image at a place counted from 0. -/
def pointAt (bytes : List Byte) (i : Nat) : Nat × Nat :=
  (nat32 (fieldAt bytes (11 + 8 * i) 4), nat32 (fieldAt bytes (15 + 8 * i) 4))

/-- The record of an image whose CRC matches; none when the block is erased or its CRC does not match (R28). Points beyond k are
ignored (R191). -/
def readImage (bytes : List Byte) : Option CalRecord :=
  if bytes.length = 48 ∧ be16 (crc16 (bytes.take 46)) = bytes.drop 46 then
    some
      { max := nat16 (fieldAt bytes 0 2)
        d1 := (bytes.getD 2 0).toNat
        d2 := (bytes.getD 3 0).toNat
        range1 := nat16 (fieldAt bytes 4 2)
        cZero := int32 (fieldAt bytes 6 4)
        points := ((List.range 4).map (pointAt bytes)).take (bytes.getD 10 0).toNat
        counter := nat16 (fieldAt bytes 43 2)
        restart := bytes.getD 45 0 == 1 }
  else none

end Sys2Proof.Machine
end

