-- ==== Sys2Proof/Machine/Calibration.lean ====
section
/-! DEFINITION. Calibration and the sealed record (02): the seal switch, the edits, the commit and the discard. -/

namespace Sys2Proof.Machine

/-- In FAULT(CONVERTER), and in WARMING with a resume state, an event that would move the engine replaces the resume state instead
(R22, R33). -/
def Scale.resumesLater (b : Scale) : Bool := b.engine == .faultConverter || (b.engine == .warming && b.resume.isSome)

/-- An event moves the engine to a state, or replaces the resume state (R22, R33). -/
def moveOrResume (e : Engine) (s : State) : State :=
  if s.scale.resumesLater then s.modScale fun b => { b with resume := some e } else moveEngine e s

/-! ## The discard (R41) -/

/-- A discard: the working calibration returns to the store's copy, and the engine moves to MEASURING or FAULT(NOT_CALIBRATED). -/
def discard (s : State) : State :=
  let s1 := calChanged (s.modScale fun b => { b with cal := s.store.copy, session := false })
  let s2 := moveOrResume (if s.store.copy.isSome then .measuring else .faultNotCalibrated) s1
  formScaleState (s2.modScale fun b => { b with flags := { b.flags with calDiscarded := true } })

/-! ## The seal switch (R30) -/

/-- The seal switch has held a new level for 50 ms (R30): the calibration window is emptied, and an opening discards edits that no
commit carries. A level already read changes nothing. -/
def changeSeal (level : SealLevel) (s : State) : State :=
  if s.store.sealSwitch = level then s
  else
    let s' := (s.modStore fun b => { b with sealSwitch := level }).modScale fun b => { b with calWindow := [] }
    if level = .opened ∧ s.scale.session ∧ s.store.inFlight.isNone then discard s' else s'

/-- SEAL_SWITCH_CHANGE. -/
def execSealSwitchChange (level : SealLevel) (s : State) : Host.Outcome State Fault Refusal :=
  run (fun s => changeSeal level { s with inputs := { s.inputs with sealSwitch := level } }) s

/-! ## Edits (R32) -/

/-- The blank copy that a session without a working calibration starts from (R32). Of the restart mark R32 says nothing; it is clear
(DESIGN CHOICE, log 48). -/
def blankCal : CalRecord :=
  { max := 0, d1 := 0, d2 := 0, range1 := 0, cZero := 0, points := [], counter := 0, restart := false }

/-- The edit copy: the working calibration, or the blank copy (R32). -/
def editCopy (s : State) : CalRecord := s.scale.cal.getD blankCal

/-- The tests of R32 that every calibration command makes first; none when they pass. -/
def calRefusal (s : State) : Option Status :=
  if s.store.sealSwitch = .opened then some .sealedOff
  else if s.store.inFlight.isSome then some .busy
  else none

/-- The tests of R32 for an edit. -/
def editRefusal (s : State) : Option Status :=
  match calRefusal s with
  | some st => some st
  | none => if s.scale.engine = .warming then some .state else none

/-- The tests of R32 for Commit Calibration and Discard Calibration. -/
def sessionRefusal (s : State) : Option Status :=
  match calRefusal s with
  | some st => some st
  | none => if s.scale.session then none else some .state

/-- The working calibration becomes the edit copy, with the engine in a state and with a resume state (R32, R8). -/
def installCopy (c : CalRecord) (e : Engine) (resume : Option Engine) (s : State) : State :=
  calChanged (s.modScale fun b => { b with engine := e, resume := resume, cal := some c, session := true })

/-- An accepted edit (R32, R8): the copy becomes the working calibration; the first edit of a session moves the engine to CAL_EDIT, and the
SCALE_STATE of that move carries the load condition under the new calibration. -/
def applyEdit (c : CalRecord) (s : State) : State :=
  if s.scale.session then installCopy c s.scale.engine s.scale.resume s
  else if s.scale.resumesLater then installCopy c s.scale.engine (some .calEdit) s
  else formScaleState (installCopy c .calEdit s.scale.resume s)

/-- An edit with its own tests: those of R32 first; then a refusal with a status, or the new copy. -/
def edit (own : State → Except Status CalRecord) : Command := fun s =>
  match editRefusal s with
  | some st => refuse st s
  | none =>
    match own s with
    | .error st => refuse st s
    | .ok c => accept (applyEdit c s)

/-- Set Capacity's own tests (R34): each value against its own range alone. -/
def capacityEdit (max d1 d2 range1 : Nat) (s : State) : Except Status CalRecord :=
  if 1000 ≤ max ∧ max ≤ 60000 ∧ isInterval d1 ∧ (d2 = 0 ∨ isInterval d2) ∧ range1 ≤ 60000 then
    .ok { editCopy s with max := max, d1 := d1, d2 := d2, range1 := range1 }
  else .error .badArg

/-- Set Capacity (R34). -/
def cmdSetCapacity (max d1 d2 range1 : BitVec 32) : Command :=
  edit (capacityEdit max.toNat d1.toNat d2.toNat range1.toNat)

/-- SET_CAPACITY. -/
def execSetCapacity (tag : Byte) (max d1 d2 range1 : BitVec 32) (s : State) : Host.Outcome State Fault Refusal :=
  runCommand (encodeFrame (.setCapacity tag max d1 d2 range1)) (cmdSetCapacity max d1 d2 range1) s

/-- Whether the raw counts are stable (R31). -/
def countsStable (s : State) : Bool := s.scale.calWindow.length == 24 && spread s.scale.calWindow ≤ 20

/-- The newest F for a capture, or the refusal of R35 and R36: not in FAULT(CONVERTER), and the calibration window stable. -/
def stableCount (s : State) : Except Status Int :=
  if s.scale.engine = .faultConverter ∨ !countsStable s then .error .state
  else match s.scale.newest with
    | some f => .ok f
    | none => .error .state

/-- Capture Cal Zero's own tests (R35). -/
def zeroEdit (s : State) : Except Status CalRecord :=
  match stableCount s with
  | .error st => .error st
  | .ok f => .ok { editCopy s with cZero := f }

/-- Capture Cal Zero (R35). -/
def cmdCaptureCalZero : Command := edit zeroEdit

/-- CAPTURE_CAL_ZERO. -/
def execCaptureCalZero (tag : Byte) (s : State) : Host.Outcome State Fault Refusal :=
  runCommand (encodeFrame (.captureCalZero tag)) cmdCaptureCalZero s

/-- Point i of a copy, counting from 1, replaced, or added as point k + 1 (R36, R37). -/
def CalRecord.withPoint (c : CalRecord) (i : Nat) (p : Nat × Nat) : CalRecord :=
  { c with points := if i = c.points.length + 1 then c.points ++ [p] else c.points.set (i - 1) p }

/-- The index test of R36 and R37. -/
def pointIndexOk (c : CalRecord) (i : Nat) : Bool := 1 ≤ i && i ≤ 4 && i ≤ c.points.length + 1

/-- Capture Cal Point's own tests (R36). -/
def pointEdit (i mass : Nat) (s : State) : Except Status CalRecord :=
  let c := editCopy s
  if !pointIndexOk c i then .error .badArg
  else if mass < 1 ∨ 134217727 < mass then .error .badArg
  else match stableCount s with
    | .error st => .error st
    | .ok f => if f - c.cZero < 1 then .error .outOfRange else .ok (c.withPoint i ((f - c.cZero).toNat, mass))

/-- Capture Cal Point (R36). -/
def cmdCaptureCalPoint (index : Byte) (mass : BitVec 32) : Command := edit (pointEdit index.toNat mass.toNat)

/-- CAPTURE_CAL_POINT. -/
def execCaptureCalPoint (tag index : Byte) (mass : BitVec 32) (s : State) : Host.Outcome State Fault Refusal :=
  runCommand (encodeFrame (.captureCalPoint tag index mass)) (cmdCaptureCalPoint index mass) s

/-- Set Cal Point's own tests (R37): a count and a mass of 0 remove point i and every point above it. At i = k + 1 they remove none, and
the edit is accepted like any other: with no session open it opens one, with the effects of R32 (DESIGN CHOICE, log 43). -/
def pointValueEdit (i count mass : Nat) (s : State) : Except Status CalRecord :=
  let c := editCopy s
  if !pointIndexOk c i then .error .badArg
  else if count = 0 ∧ mass = 0 then .ok { c with points := c.points.take (i - 1) }
  else if 1 ≤ count ∧ count ≤ 33554431 ∧ 1 ≤ mass ∧ mass ≤ 134217727 then .ok (c.withPoint i (count, mass))
  else .error .badArg

/-- Set Cal Point (R37). -/
def cmdSetCalPoint (index : Byte) (count mass : BitVec 32) : Command :=
  edit (pointValueEdit index.toNat count.toNat mass.toNat)

/-- SET_CAL_POINT. -/
def execSetCalPoint (tag index : Byte) (count mass : BitVec 32) (s : State) : Host.Outcome State Fault Refusal :=
  runCommand (encodeFrame (.setCalPoint tag index count mass)) (cmdSetCalPoint index count mass) s

/-! ## The commit (R38 to R40) -/

/-- The number of the first check of R38 that fails; none when the copy passes. -/
def commitFailure (c : CalRecord) : Option Nat :=
  if !c.capacityOk then some 1
  else if c.points.isEmpty then some 2
  else if !c.countsRise then some 3
  else if !c.massesRise then some 4
  else if ((c.points.getLast?.map Prod.snd).getD 0) < 100 * c.max then some 5
  else none

/-- The commit image (R38): the copy, with the counter and the restart mark that the stored record gives. -/
def commitImage (stored : Option CalRecord) (c : CalRecord) : CalRecord :=
  match stored with
  | some r => { c with counter := if r.counter < 65535 then r.counter + 1 else 65535, restart := r.restart }
  | none => { c with counter := 1, restart := true }

/-- Commit Calibration (R38): the store operation begins, and the block is invalid from now until the write ends. -/
def cmdCommitCalibration : Command := fun s =>
  match sessionRefusal s with
  | some st => refuse st s
  | none =>
    match commitFailure (editCopy s) with
    | some n => refuseAt .badArg n s
    | none =>
      accept (s.modStore fun b =>
        { b with block := none
                 inFlight := some ⟨false, s.clock.swipeClock, commitImage b.copy (editCopy s), false⟩ })

/-- COMMIT_CALIBRATION. -/
def execCommitCalibration (tag : Byte) (s : State) : Host.Outcome State Fault Refusal :=
  runCommand (encodeFrame (.commitCalibration tag)) cmdCommitCalibration s

/-- Microseconds that the present phase of a store operation has run. -/
def storeMicros (s : State) (op : StoreOp) : Nat := (s.clock.swipeClock - op.since).toNat

/-- The erase ends (R38): the write begins. It ends no earlier than 15 ms after it began (log 12). -/
def endErase (s : State) : State :=
  match s.store.inFlight with
  | some op =>
    if op.writing = false ∧ 15000 ≤ storeMicros s op then
      s.modStore fun b => { b with inFlight := some { op with writing := true, since := s.clock.swipeClock } }
    else s
  | none => s

/-- CAL_ERASE_END. -/
def execCalEraseEnd (s : State) : Host.Outcome State Fault Refusal := run endErase s

/-- The effects of a completed commit that a FULL reset does not take away (R39, R40): the block and the copy hold the image, the Tare
Table is EMPTY, and the flag is set. -/
def storeImage (image : CalRecord) (s : State) : State :=
  ((s.modStore fun b => { b with block := some image.image, copy := some image, inFlight := none }).modMgmt
    fun b => { b with tares := .cleared 1 }).modScale fun b => { b with flags := { b.flags with calCommitted := true } }

/-- The requests whose tare class is not 0 end with outcome TARE_UNAVAILABLE (R40, R51). -/
def endTared (s : State) : State := endWhere (fun r => r.tareClass != 0) .tareUnavailable s

/-- A commit completes (R40): the working calibration becomes the image, z_mg 0, the armed flag clear and the session closed; the
engine moves to INITIAL_ZERO, with its SCALE_STATE; and the tared requests end (the order of their reports, log 47). -/
def completeCommit (image : CalRecord) (s : State) : State :=
  let s1 := calChanged ((storeImage image s).modScale fun b => { b with cal := some image, session := false })
  let s2 := (changeZero 0 s1).modScale fun b => { b with armed := false }
  formScaleState (endTared (moveOrResume .initialZero s2))

/-- The write ends (R40), no earlier than 5 ms after it began (log 12). -/
def endWrite (s : State) : State :=
  match s.store.inFlight with
  | some op =>
    if op.writing = true ∧ 5000 ≤ storeMicros s op then
      if op.afterFull then formScaleState (endTared (storeImage op.image s)) else completeCommit op.image s
    else s
  | none => s

/-- COMMIT_COMPLETE. -/
def execCommitComplete (s : State) : Host.Outcome State Fault Refusal := run endWrite s

/-- Discard Calibration (R41). -/
def cmdDiscardCalibration : Command := fun s =>
  match sessionRefusal s with
  | some st => refuse st s
  | none => accept (discard s)

/-- DISCARD_CALIBRATION. -/
def execDiscardCalibration (tag : Byte) (s : State) : Host.Outcome State Fault Refusal :=
  runCommand (encodeFrame (.discardCalibration tag)) cmdDiscardCalibration s

end Sys2Proof.Machine
end

