-- ==== Sys2Proof/Machine/CardRules.lean ====
section
/-! DEFINITION. Card rules and masking (06): the account check, the class and the mask profile, masking, attachment and the CARD
report. -/

namespace Sys2Proof.Machine

/-! ## The account check (R96) -/

/-- A doubled digit, 9 subtracted when it is above 9. -/
def doubled (d : Nat) : Nat := if 9 < 2 * d then 2 * d - 9 else 2 * d

/-- The sum of the check over the digits from the rightmost on; `even` says that the first of them stands at an even position. -/
def accountSum : Bool → List Nat → Nat
  | _, [] => 0
  | even, d :: rest => (if even then doubled d else d) + accountSum (!even) rest

/-- Whether an account passes its check (R96). -/
def accountOk (digits : List Nat) : Bool := accountSum false digits.reverse % 10 == 0

/-! ## Class and profile (R98, R99) -/

/-- The key of a record: the first six digits of ACCOUNT, or of NUMBER when it has none (R98). -/
def cardKey (f : CardFields) : Option Nat :=
  match f.account, f.number with
  | some a, _ => some (decimal (a.take 6))
  | none, some n => if 6 ≤ n.length then some (decimal (n.take 6)) else none
  | none, none => none

/-- The class and the mask profile number of a key (R98). -/
def classOf (table : Table CardEntry) (key : Option Nat) : CardClass × Nat :=
  match key with
  | none => (.unknown, 0)
  | some k =>
    if table.state = .ready then
      match table.entries.find? fun p => p.2.low ≤ k && k ≤ p.2.high with
      | some (_, e) => (e.cardClass, e.profile)
      | none => (.unknown, 0)
    else (.unknown, 0)

/-- The fixed default profile (R99). -/
def defaultMask : MaskEntry := ⟨6, 4, false, false, false, false⟩

/-- The profile applied for a number, and whether it is the fixed default (R99). -/
def maskOf (table : Table MaskEntry) (number : Nat) : MaskEntry × Bool :=
  if table.state = .ready then
    match table.at? number with
    | some e => (e, false)
    | none => (defaultMask, true)
  else (defaultMask, true)

/-! ## Masking (R100) -/

/-- The keep rule: the first and the last digits stay clear, the others become mask marks. -/
def maskDigits (keepFirst keepLast : Nat) (digits : List Nat) : Masked :=
  let first := min keepFirst digits.length
  let last := min keepLast (digits.length - first)
  let middle := digits.length - first - last
  (digits.take first).map some ++ List.replicate middle none ++ (digits.drop (first + middle)).map some

/-- Digits passed whole. -/
def clearDigits (digits : List Nat) : Masked := digits.map some

/-- The masked fields of a record under a profile (R100). -/
def maskFields (m : MaskEntry) (f : CardFields) : MaskedFields :=
  { number := f.number.map fun d => if m.numberClear then clearDigits d else maskDigits m.keepFirst m.keepLast d
    account := f.account.map (maskDigits m.keepFirst m.keepLast)
    expiry := if m.expiryClear then f.expiry.map clearDigits else none
    service := if m.serviceClear then f.service.map clearDigits else none
    discretionary := if m.discretionaryClear then f.discretionary.map clearDigits else none }

/-- No field. -/
def MaskedFields.none : MaskedFields := ⟨.none, .none, .none, .none, .none⟩

/-- The masked card digits of a reference: ACCOUNT, or NUMBER when there is none (R102). -/
def MaskedFields.card (f : MaskedFields) : Masked :=
  match f.account, f.number with
  | some a, _ => a
  | .none, some n => n
  | .none, .none => []

/-! ## Attachment and the report (R102 to R104) -/

/-- The report of a record before its attachment: steps 1 to 5 of R95. -/
def cardReportOf (s : State) (c : CardRecord) : CardReport :=
  let base : CardReport :=
    { swipe := c.swipe, endTime := c.endTime, time := s.clock.laneTime, outcome := c.outcome, position := c.position,
      count := c.count, cell := c.cell, direction := c.direction, cardClass := .unknown, profile := none,
      fields := .none, check := none, sale := s.sales.currentNumber, attachment := .none, refIndex := none,
      flags := ⟨false, false, false⟩ }
  if c.outcome ≠ .ok then base
  else
    let check := c.fields.account.map accountOk
    let cls := classOf s.mgmt.cards (cardKey c.fields)
    let mask := maskOf s.mgmt.masks cls.2
    { base with cardClass := cls.1, profile := some (cls.2, mask.2), fields := maskFields mask.1 c.fields, check := check,
                flags := ⟨false, false, check == some false⟩ }

/-- Whether a record may be attached: outcome OK and no failed check (R102, R103). -/
def CardReport.sound (r : CardReport) : Bool := r.outcome == .ok && r.check != some false

/-- Attachment to the sale in a slot (R102, R103): a card reference if the list has room, or the loyalty reference. -/
def attachTo (slot : Nat) (x : Sale) (r : CardReport) (s : State) : CardReport × State :=
  let profile := (r.profile.map Prod.fst).getD 0
  match r.cardClass with
  | .payment | .gift | .staff =>
    if 4 ≤ x.refs.length then ({ r with flags := { r.flags with refsFull := true } }, s)
    else
      let ref : CardReference := ⟨r.swipe, r.cardClass, profile, r.fields.card, r.fields.expiry⟩
      ({ r with attachment := .cardReference, refIndex := some (x.refs.length + 1) },
        s.modSales fun b => b.put slot (some { x with refs := x.refs ++ [ref] }))
  | .loyalty =>
    ({ r with attachment := .loyalty, flags := { r.flags with replaced := x.loyalty.isSome } },
      s.modSales fun b => b.put slot (some { x with loyalty := some ⟨r.swipe, profile, r.fields.card⟩ }))
  | .unknown => (r, s)

/-- Step 6 of R95: attachment is decided against the lane's current sale. -/
def attach (r : CardReport) (s : State) : CardReport × State :=
  if !r.sound then (r, s)
  else match s.sales.current? with
    | some (slot, x) => attachTo slot x r s
    | none => (r, s)

/-- The processing of a record (R95): the clear digits are discarded with it, the event is raised, and the report is offered (R93). -/
def processCard (c : CardRecord) (s : State) : State :=
  let p := attach (cardReportOf s c) (s.modSwipe fun b => { b with decodeBuffer := none })
  offerCard p.1 (raiseEvent (if p.1.sound then .cardOk else .cardError) p.2)

/-- A record in the decode buffer is processed once the report buffer is empty (R93). -/
def processWaitingCard (s : State) : State :=
  match s.swipe.decodeBuffer, s.swipe.reportBuffer with
  | some c, none => processCard c s
  | _, _ => s

/-- CARD_PROCESSING. -/
def execCardProcessing (s : State) : Host.Outcome State Fault Refusal := run processWaitingCard s

end Sys2Proof.Machine
end

