-- ==== Sys2Proof/Machine/Drawer.lean ====
section
/-! DEFINITION. The cash drawer (08): openings and their permits, the pulse, the confirmation, the sense switch and the overdue test. -/

namespace Sys2Proof.Machine

/-! ## Permits (R117) -/

/-- Marks the last tender of a list whose permit is UNUSED as USED; gives its place counted from 0. -/
def takeLast : List Tender → Option (Nat × List Tender)
  | [] => none
  | t :: rest =>
    match takeLast rest with
    | some (i, rest') => some (i + 1, t :: rest')
    | none => if t.permit = .unused then some (0, { t with permit := .used } :: rest) else none

/-- The Sale table's test for a take (R117): the state allows it and a tender has permit UNUSED; gives the slot, the position and the
sale after the take. -/
def permitFor? (b : Sales) (number : Nat) : Option (Nat × Nat × Sale) :=
  match b.find? number with
  | none => none
  | some (slot, x) =>
    if x.state = .tendering ∨ x.state = .settled ∨ x.state = .closing ∨ x.state = .closed then
      (takeLast x.tenders).map fun p => (slot, p.1 + 1, { x with tenders := p.2 })
    else none

/-- The tender list with the permit at a position restored (R117). -/
def restoreAt (position : Nat) (tenders : List Tender) : List Tender :=
  match tenders[position - 1]? with
  | some t => if t.permit = .used then tenders.set (position - 1) { t with permit := .unused } else tenders
  | none => tenders

/-- Restores the permit that a jammed opening took (R131, R117); a no-sale opening has none. -/
def restorePermit (p : Option Permit) (s : State) : State :=
  match p with
  | some (.tender sale position) =>
    match s.sales.find? sale with
    | some (slot, _) =>
      s.modSales fun b => b.update slot fun x => { x with tenders := restoreAt position x.tenders }
    | none => s
  | _ => s

/-! ## Reports (R135) -/

/-- The number of the sale served, or 0. -/
def servedSale : Option Permit → Nat
  | some (.tender sale _) => sale
  | _ => 0

/-- The position of the tender served. -/
def servedPosition : Option Permit → Option Nat
  | some (.tender _ position) => some position
  | _ => none

/-- A DRAWER report is formed on the permit now served (R135); at a change of the drawer's state it is formed before the DRAWER_STATE
(DESIGN CHOICE, log 47). -/
def reportDrawer (kind : DrawerKind) (attempt : Option Nat) (alarm noPulse : Bool) (s : State) : State :=
  offerDrawer ⟨kind, s.clock.laneTime, servedSale s.drawer.permit, servedPosition s.drawer.permit, attempt, alarm, noPulse⟩ s

/-! ## The opening -/

/-- Entry to WAIT_GRANT (R129): the SOLENOID request is formed, the allowance is formed again, and a grant test follows. -/
def enterWaitGrant (s : State) : State :=
  let s1 := s.modDrawer fun b => { b with state := .waitGrant }
  let s2 := s1.modSupply fun b =>
    { b with solRequest := some (solenoidRequest s) }
  allowanceChanged (formDrawerState s2)

/-- The tests that both forms of Open Drawer make last (R127, R128): the drawer is CLOSED and its list holds fewer than 4. -/
def drawerFree (s : State) : Bool := s.drawer.state == .closed && s.drawer.reports.length < 4

/-- A no-sale opening (R128). -/
def cmdOpenDrawerNoSale : Command := fun s =>
  if s.mgmt.params.noSaleAllowed ≠ 1 then refuse .drawer s
  else if s.sales.current?.any fun p => p.2.state == .tendering then refuse .drawer s
  else if !drawerFree s then refuse .busy s
  else
    let s1 := count (fun k => { k with noSaleOpens := satInc k.noSaleOpens }) s
    accept (enterWaitGrant (s1.modDrawer fun b => { b with permit := some .noSale, attempt := some 1 }))

/-- An opening for a sale (R127). -/
def openForSale (sale : Nat) : Command := fun s =>
  match permitFor? s.sales sale with
  | none => refuse .drawer s
  | some (slot, position, x) =>
    if !drawerFree s then refuse .busy s
    else
      let s1 := s.modSales fun b => b.put slot (some x)
      acceptWith (.small position)
        (enterWaitGrant (s1.modDrawer fun b => { b with permit := some (.tender sale position), attempt := some 1 }))

/-- Open Drawer (R127); sale number 0 is a no-sale opening (R128). -/
def cmdOpenDrawer (sale : BitVec 16) : Command :=
  if sale = 0 then cmdOpenDrawerNoSale else openForSale sale.toNat

/-- OPEN_DRAWER. -/
def execOpenDrawer (tag : Byte) (sale : BitVec 16) (s : State) : Host.Outcome State Fault Refusal :=
  runCommand (encodeFrame (.openDrawer tag sale)) (cmdOpenDrawer sale) s

/-- OPEN_DRAWER_NO_SALE. -/
def execOpenDrawerNoSale (tag : Byte) (s : State) : Host.Outcome State Fault Refusal :=
  runCommand (encodeFrame (.openDrawerNoSale tag)) cmdOpenDrawerNoSale s

/-- Entry to OPEN (R132), its DRAWER report before its DRAWER_STATE (log 47). -/
def enterOpen (noPulse : Bool) (s : State) : State :=
  let s1 := s.modDrawer fun b => { b with state := .opened, openTime := s.clock.laneTime }
  let s2 := reportDrawer .opened s.drawer.attempt false noPulse s1
  let s3 := count (fun k => { k with drawerOpens := satInc k.drawerOpens })
    (s2.modDrawer fun b => { b with attempt := none, openedMark := false })
  raiseEvent .drawerOpened (formDrawerState s3)

/-! ## The pulse and the confirmation (R130, R131) -/

/-- Whether the pulse has reached its end. -/
def duePulseEnd (s : State) : Bool := s.drawer.state == .pulsing && reached s.clock.laneTime s.drawer.pulseEnd

/-- The pulse ends (R130): the solenoid is released, its grant ends with the effects of R157 and R160, shock hold begins, and the
drawer becomes OPEN or CONFIRMING. -/
def endPulse (s : State) : State :=
  let s1 := startShock (markDisturbed (s.modSupply fun b => { b with solGrant := none }))
  let s2 :=
    if s1.drawer.openedMark then enterOpen false s1
    else formDrawerState (s1.modDrawer fun b => { b with state := .confirming, deadline := s1.clock.laneTime + 500 })
  allowanceChanged (takePendingBudget s2)

/-- DRAWER_PULSE_END. -/
def execDrawerPulseEnd (s : State) : Host.Outcome State Fault Refusal :=
  run (fun s => if duePulseEnd s then endPulse s else s) s

/-- Whether the confirmation deadline has been reached. -/
def dueDeadline (s : State) : Bool := s.drawer.state == .confirming && reached s.clock.laneTime s.drawer.deadline

/-- The opening has jammed (R131), its DRAWER report before its DRAWER_STATE (log 47). -/
def jam (s : State) : State :=
  let s1 := restorePermit s.drawer.permit (reportDrawer .jammed s.drawer.attempt false false s)
  let s2 := s1.modDrawer fun b => { b with state := .closed, permit := none, attempt := none }
  raiseEvent .drawerJammed (formDrawerState (count (fun k => { k with jams := satInc k.jams }) s2))

/-- The deadline passes with the switch reading CLOSED (R131): attempt 1 retries, attempt 2 jams. -/
def passDeadline (s : State) : State :=
  if s.drawer.attempt = some 1 then enterWaitGrant (s.modDrawer fun b => { b with attempt := some 2 }) else jam s

/-- CONFIRMATION_DEADLINE. -/
def execConfirmationDeadline (s : State) : Host.Outcome State Fault Refusal :=
  run (fun s => if dueDeadline s then passDeadline s else s) s

/-! ## Overdue (R132) -/

/-- Whether the drawer has stood OPEN for drawer_left_open_s. -/
def dueOverdue (s : State) : Bool :=
  s.drawer.state == .opened && s.mgmt.params.drawerLeftOpenS != 0
    && s.mgmt.params.drawerLeftOpenS * 1000 ≤ s.clock.millisSince s.drawer.openTime

/-- The drawer becomes OVERDUE when its time is up (R132), its DRAWER report before its DRAWER_STATE (log 47). -/
def checkOverdue (s : State) : State :=
  if dueOverdue s then
    raiseEvent .drawerOverdue
      (formDrawerState (reportDrawer .overdue none false false (s.modDrawer fun b => { b with state := .overdue })))
  else s

/-- DRAWER_OVERDUE. -/
def execDrawerOverdue (s : State) : Host.Outcome State Fault Refusal := run checkOverdue s

/-! ## The sense switch (R126, R129 to R133) -/

/-- The opening is served without a pulse (R129): the request is withdrawn and the drawer becomes OPEN. That a grant test follows the
withdrawal is a DESIGN CHOICE (log 44). -/
def serveWithoutPulse (s : State) : State :=
  allowanceChanged (enterOpen true (s.modSupply fun b => { b with solRequest := none }))

/-- The drawer opened by force (R133), its DRAWER report before its DRAWER_STATE (log 47). -/
def forceOpen (s : State) : State :=
  formDrawerState (reportDrawer .forced none true false
    (s.modDrawer fun b => { b with state := .forcedOpen, openTime := s.clock.laneTime }))

/-- The drawer is shut (R133): the report names the permit served, which then becomes absent, and shock hold begins; its
DRAWER_STATE follows (log 47). -/
def closeDrawer (s : State) : State :=
  let s1 := reportDrawer .closed none false false s
  raiseEvent .drawerClosed (startShock (formDrawerState (s1.modDrawer fun b => { b with state := .closed, permit := none })))

/-- Whether a change of the reading to a level would form a DRAWER report (R126, R129, R131, R133). -/
def changeReports (state : DrawerState) (level : SenseLevel) : Bool :=
  match state, level with
  | .closed, .opened | .waitGrant, .opened | .confirming, .opened => true
  | .opened, .closed | .overdue, .closed | .forcedOpen, .closed => true
  | _, _ => false

/-- A change of the reading is taken by the rule for the state the drawer is in. -/
def actOnSense (level : SenseLevel) (s : State) : State :=
  match s.drawer.state, level with
  | .closed, .opened => forceOpen s
  | .waitGrant, .opened => serveWithoutPulse s
  | .confirming, .opened => enterOpen false s
  | .pulsing, _ => s.modDrawer fun b => { b with openedMark := level == .opened }
  | .opened, .closed | .overdue, .closed | .forcedOpen, .closed => closeDrawer s
  | _, _ => s

/-- The reading takes a level; one that it has already changes nothing. -/
def takeSense (level : SenseLevel) (s : State) : State :=
  if s.drawer.sense = level then s else actOnSense level (s.modDrawer fun b => { b with sense := level })

/-- The switch input has held a level for 20 ms (R126): the change is taken, or held back while the list is full. -/
def changeSense (level : SenseLevel) (s : State) : State :=
  let s' : State := { s with inputs := { s.inputs with sense := level } }
  if s.drawer.deferred || s.drawer.sense == level then s'
  else if changeReports s.drawer.state level && 8 ≤ s.drawer.reports.length then
    s'.modDrawer fun b => { b with deferred := true }
  else takeSense level s'

/-- DRAWER_SENSE_CHANGE. -/
def execDrawerSenseChange (level : SenseLevel) (s : State) : Host.Outcome State Fault Refusal := run (changeSense level) s

/-- The level opposite to a reading. -/
def otherLevel : SenseLevel → SenseLevel
  | .closed => .opened
  | .opened => .closed

/-- The list has room (R126): a change held back is taken as if it had just occurred, whatever the input shows; a return of the input to
the old level is then a further change (log 18). -/
def takeDeferred (s : State) : State :=
  if s.drawer.deferred && s.drawer.reports.length < 8 then
    let s' := takeSense (otherLevel s.drawer.sense) (s.modDrawer fun b => { b with deferred := false })
    changeSense s'.inputs.sense s'
  else s

/-- DRAWER_SENSE_DEFERRED. -/
def execDrawerSenseDeferred (s : State) : Host.Outcome State Fault Refusal := run takeDeferred s

end Sys2Proof.Machine
end

