-- ==== Sys2Proof/Machine/Flags.lean ====
section
/-! DEFINITION. The codes of the enumerations and the flag sets of the frames (13.3): every name as the number that a frame
carries. -/

namespace Sys2Proof.Machine

/-- A flag set: bit 0 is the first flag named (13.3). -/
def flagSet : List Bool → Nat
  | [] => 0
  | b :: rest => (if b then 1 else 0) + 2 * flagSet rest

/-- The SCAN flags: CLASSES_UNAVAILABLE, NO_SALE, WEIGH_QUEUE_FULL, TOKENS_FULL. -/
def ScanFlags.bits (f : ScanFlags) : Nat := flagSet [f.classesUnavailable, f.noSale, f.weighQueueFull, f.tokensFull]

/-- The CARD flags: REFS_FULL, REPLACED, CHECK_FAILED. -/
def CardFlags.bits (f : CardFlags) : Nat := flagSet [f.refsFull, f.replaced, f.checkFailed]

/-- The DRAWER flags: ALARM, NO_PULSE. -/
def DrawerReport.bits (r : DrawerReport) : Nat := flagSet [r.alarm, r.noPulse]

/-- The pending SCALE_STATE flags: TRACK_LIMIT_HIT, CAL_COMMITTED, CAL_DISCARDED. -/
def PendingFlags.bits (f : PendingFlags) : Nat := flagSet [f.trackLimitHit, f.calCommitted, f.calDiscarded]

/-- The pending flags less those that a transmitted report carried (R24). -/
def PendingFlags.less (f carried : PendingFlags) : PendingFlags :=
  { trackLimitHit := f.trackLimitHit && !carried.trackLimitHit
    calCommitted := f.calCommitted && !carried.calCommitted
    calDiscarded := f.calDiscarded && !carried.calDiscarded }

/-- Status codes. -/
def Status.code : Status → Nat
  | .ok => 0 | .okClamped => 1 | .busy => 2 | .state => 3 | .badArg => 4 | .noRoom => 5 | .unknown => 6 | .sealedOff => 7
  | .notReady => 8 | .pendingWeigh => 9 | .balance => 10 | .incomplete => 11 | .drawer => 12 | .printed => 13
  | .badToken => 14 | .already => 15 | .outOfRange => 16 | .mismatch => 17 | .noSale => 18

/-- Weigh outcomes. -/
def WeighOutcome.code : WeighOutcome → Nat
  | .captured => 0 | .netNotPositive => 1 | .tareUnavailable => 2 | .timeout => 3 | .cancelled => 4 | .fault => 5

/-- Request sources. -/
def Source.code : Source → Nat
  | .scan => 0 | .host => 1

/-- Dispositions. -/
def Disposition.code : Disposition → Nat
  | .forwarded => 0 | .rejected => 1 | .blocked => 2

/-- Item classes. -/
def ItemClass.code : ItemClass → Nat
  | .ordinary => 0 | .weighed => 1 | .embedded => 2 | .blocked => 3 | .other => 4

/-- Embedded kinds. -/
def EmbeddedKind.code : EmbeddedKind → Nat
  | .price => 0 | .weightG => 1

/-- Swipe outcomes. -/
def SwipeOutcome.code : SwipeOutcome → Nat
  | .ok => 0 | .tooLong => 1 | .tooShort => 2 | .speed => 3 | .cell => 4 | .noStart => 5 | .parity => 6 | .character => 7
  | .noEnd => 8 | .lrc => 9 | .format => 10

/-- Card classes. -/
def CardClass.code : CardClass → Nat
  | .payment => 0 | .loyalty => 1 | .gift => 2 | .staff => 3 | .unknown => 4

/-- Directions. -/
def Direction.code : Direction → Nat
  | .forward => 0 | .reverse => 1

/-- Attachments. -/
def Attachment.code : Attachment → Nat
  | .none => 0 | .cardReference => 1 | .loyalty => 2

/-- Sale states. -/
def SaleState.code : SaleState → Nat
  | .free => 0 | .opened => 1 | .tendering => 2 | .settled => 3 | .closing => 4 | .aborting => 5 | .closed => 6

/-- Sale causes. -/
def SaleCause.code : SaleCause → Nat
  | .openSale => 0 | .beginTender => 1 | .resumeSale => 2 | .settle => 3 | .closeReceipt => 4 | .abortSale => 5
  | .receiptCut => 6 | .releaseSale => 7

/-- Token states. -/
def TokenState.code : TokenState → Nat
  | .captured => 0 | .queued => 1 | .printing => 2 | .printed => 3 | .voided => 4

/-- Tender kinds. -/
def TenderKind.code : TenderKind → Nat
  | .cash => 0 | .card => 1 | .voucher => 2

/-- Tender permits. -/
def TenderPermit.code : TenderPermit → Nat
  | .none => 0 | .unused => 1 | .used => 2

/-- Overlay formats. -/
def OverlayFormat.code : OverlayFormat → Nat
  | .kg3 => 0 | .g0 => 1

/-- Reaction sources, in the order of the source table of 11. -/
def SourceEvent.code : SourceEvent → Nat
  | .scaleZero => 0 | .scaleOver => 1 | .weightCaptured => 2 | .weighTimeout => 3 | .scanRejected => 4 | .scanBlocked => 5
  | .cardOk => 6 | .cardError => 7 | .drawerOpened => 8 | .drawerOverdue => 9 | .drawerClosed => 10 | .drawerJammed => 11
  | .paperOut => 12 | .paperNearEnd => 13 | .receiptCut => 14 | .saleSettled => 15 | .lowSupply => 16 | .supplyOk => 17

/-- Lamp values. -/
def LampSetting.code : LampSetting → Nat
  | .off => 0 | .on => 1 | .blink => 2

/-- Reaction actions with their arguments; the four hold actions carry 0 (R170). -/
def Action.codes : Action → Nat × Nat
  | .lampA v => (0, v.code) | .lampB v => (1, v.code) | .beep n => (2, n) | .holdScanner => (3, 0) | .releaseScanner => (4, 0)
  | .holdSwipe => (5, 0) | .releaseSwipe => (6, 0)

/-- Engine states; both causes of FAULT share a code. -/
def Engine.code : Engine → Nat
  | .warming => 0 | .initialZero => 1 | .zeroError => 2 | .measuring => 3 | .calEdit => 4 | .faultConverter => 5
  | .faultNotCalibrated => 5

/-- Fault causes; absent outside FAULT. -/
def Engine.causeCode : Engine → Option Nat
  | .faultConverter => some 0 | .faultNotCalibrated => some 1 | _ => none

/-- Load conditions. -/
def LoadCond.code : LoadCond → Nat
  | .none => 0 | .over => 1 | .under => 2 | .motion => 3 | .zero => 4 | .stable => 5

/-- Drawer states. -/
def DrawerState.code : DrawerState → Nat
  | .closed => 0 | .waitGrant => 1 | .pulsing => 2 | .confirming => 3 | .opened => 4 | .overdue => 5 | .forcedOpen => 6

/-- DRAWER report kinds. -/
def DrawerKind.code : DrawerKind → Nat
  | .opened => 0 | .overdue => 1 | .closed => 2 | .jammed => 3 | .forced => 4

/-- Sense switch readings. -/
def senseCode : SenseLevel → Nat
  | .closed => 0 | .opened => 1

/-- Print engine states. -/
def PrintState.code : PrintState → Nat
  | .idle => 0 | .printing => 1 | .cutFeed => 2 | .cutting => 3 | .stopped => 4 | .heatHold => 5

/-- Stop causes. -/
def StopCause.code : StopCause → Nat
  | .paper => 0 | .cover => 1 | .cutter => 2

/-- Paper readings. -/
def paperCode : PaperLevel → Nat
  | .present => 0 | .out => 1

/-- Near-end readings. -/
def nearEndCode : NearEndLevel → Nat
  | .normal => 0 | .nearEnd => 1

/-- Cover readings. -/
def coverCode : CoverLevel → Nat
  | .closed => 0 | .opened => 1

/-- Cutter readings. -/
def cutterCode : CutterLevel → Nat
  | .home => 0 | .away => 1

/-- Table states. -/
def TableState.code : TableState → Nat
  | .empty => 0 | .loading => 1 | .ready => 2

/-- Grant kinds. -/
def GrantKind.code : GrantKind → Nat
  | .solenoid => 0 | .cutter => 1 | .motor => 2 | .strobe => 3

end Sys2Proof.Machine
end

