-- ==== Sys2Proof/Machine/Scanner.lean ====
section
/-! DEFINITION. Scanner intake and item classes (04): the assembly of code frames, the check digit, the lookup, the dispositions, and
the holds. -/

namespace Sys2Proof.Machine

/-! ## Check digit and lookup (4.3, 4.4) -/

/-- Whether a frame is a retail code: digits alone, of length 8, 12 or 13 (R65). -/
def isRetail (code : List Byte) : Bool := code.all isDigit && [8, 12, 13].contains code.length

/-- The digits weighted 3, 1, 3, 1 and so on, and summed (R65). -/
def weightedSum : Nat → List Nat → Nat
  | _, [] => 0
  | w, d :: rest => w * d + weightedSum (4 - w) rest

/-- Whether the last digit of a retail code is its check digit (R65). -/
def checkDigitOk (code : List Byte) : Bool :=
  match (code.map digitOf).reverse with
  | [] => false
  | check :: rest => check == (10 - weightedSum 3 rest % 10) % 10

/-- Whether an entry is a candidate for a code (R68). -/
def ItemEntry.matches (e : ItemEntry) (code : List Byte) : Bool :=
  (e.codeLength == 0 || e.codeLength == code.length) && code.take e.lead.length == e.lead

/-- Whether a candidate wins over the best one so far (R68): a longer prefix, or the same length of prefix with the code's own
length. -/
def ItemEntry.beats (e best : ItemEntry) : Bool :=
  best.lead.length < e.lead.length || (e.lead.length == best.lead.length && e.codeLength != 0 && best.codeLength == 0)

/-- The winning entry for a code, with its index (R68). -/
def lookupItem (code : List Byte) : List (Nat × ItemEntry) → Option (Nat × ItemEntry) → Option (Nat × ItemEntry)
  | [], best => best
  | (i, e) :: rest, best =>
    let better := e.matches code && match best with
      | some (_, b) => e.beats b
      | none => true
    lookupItem code rest (if better then some (i, e) else best)

/-! ## Processing (R70 to R72) -/

/-- A SCAN report of a frame processed now, with no flag and nothing found (R72). -/
def plainScan (code : List Byte) (s : State) : ScanReport :=
  { code := code, disposition := .forwarded, itemClass := some .ordinary, index := none, sale := s.sales.currentNumber,
    token := none, tareClass := none, embedded := none, flags := ⟨false, false, false, false⟩, time := s.clock.laneTime }

/-- The value of an embedded field (R71). -/
def embeddedValue (e : ItemEntry) (code : List Byte) : Nat :=
  decimal (((code.drop (e.fieldStart - 1)).take e.fieldLength).map digitOf)

/-- Seeks a weigh request for a WEIGHED code (R44, R45, R70): the report with the token number or with the flag of the first test that
fails, and the state. -/
def seekRequest (e : ItemEntry) (r : ScanReport) (s : State) : ScanReport × State :=
  let refused (flags : ScanFlags) := ({ r with tareClass := some e.tareClass, flags := flags }, s)
  match s.sales.current? with
  | none => refused { r.flags with noSale := true }
  | some (slot, x) =>
    if x.state ≠ .opened then refused { r.flags with noSale := true }
    else if !weighRoom s then refused { r.flags with weighQueueFull := true }
    else if !tokenRoom s x then refused { r.flags with tokensFull := true }
    else
      ({ r with tareClass := some e.tareClass, token := some (offeredToken s) },
        createRequest slot x .scan (some r.code) e.tareClass s)

/-- What the winning entry makes of a code (R70): the report, and the state after the request sought or the event raised. -/
def applyItem (e : ItemEntry) (r : ScanReport) (s : State) : ScanReport × State :=
  let r := { r with itemClass := some e.itemClass }
  match e.itemClass with
  | .weighed => seekRequest e r s
  | .embedded => ({ r with embedded := some (e.fieldKind, embeddedValue e r.code) }, s)
  | .blocked => ({ r with disposition := .blocked }, raiseEvent .scanBlocked s)
  | .ordinary | .other => (r, s)

/-- What processing makes of a finished frame (R65, R68 to R71). -/
def classify (code : List Byte) (s : State) : ScanReport × State :=
  let r := plainScan code s
  if !isRetail code then ({ r with itemClass := some .other }, s)
  else if !checkDigitOk code then
    ({ r with disposition := .rejected, itemClass := none },
      raiseEvent .scanRejected (count (fun k => { k with rejectedScans := satInc k.rejectedScans }) s))
  else if s.mgmt.items.state ≠ .ready then ({ r with flags := { r.flags with classesUnavailable := true } }, s)
  else match lookupItem code s.mgmt.items.entries none with
    | none => (r, s)
    | some (i, e) => applyItem e { r with index := some i } s

/-- A finished frame is processed, and its report is offered (R72, R73). -/
def processScan (code : List Byte) (s : State) : State :=
  let p := classify code (count (fun k => { k with scans := satInc k.scans }) s)
  offerScan p.1 p.2

/-- A finished frame that waits is processed once the slot is empty (R73). -/
def processWaitingScan (s : State) : State :=
  match s.scan.finished, s.scan.slot with
  | some code, none => processScan code (s.modScan fun b => { b with finished := none })
  | _, _ => s

/-- SCAN_PROCESSING. -/
def execScanProcessing (s : State) : Host.Outcome State Fault Refusal := run processWaitingScan s

/-! ## Assembly (R63, R64, R73, R74) -/

/-- A frame discarded counts for its fault (R64). -/
def countDiscard (f : ScanFault) (s : State) : State :=
  count (fun k => match f with
    | .line => { k with discardLine := satInc k.discardLine }
    | .badChar => { k with discardChar := satInc k.discardChar }
    | .long => { k with discardLong := satInc k.discardLong }) s

/-- No frame is in progress. -/
def Scan.noFrame (b : Scan) : Scan := { b with chars := [], count := 0, fault := none }

/-- The CR that closes a frame (R63, R64); with no character before it, it is ignored. -/
def endCode (s : State) : State :=
  if s.scan.count = 0 then s
  else
    let s' := s.modScan Scan.noFrame
    match s.scan.fault with
    | some f => countDiscard f s'
    | none =>
      if s.scan.slot.isNone then processScan s.scan.chars s'
      else s'.modScan fun b => { b with finished := some s.scan.chars }

/-- The fault that a character brings to its frame (R64), the first of those it meets in the order of the table (log 24): an overrun is a
character received while a finished frame waits (R73), or the first of a frame while the scanner is held (R74). -/
def faultOf (b : Scan) (data : Byte) (framingError : Bool) : Option ScanFault :=
  if framingError || b.finished.isSome || (b.count == 0 && !b.clearToSend) then some .line
  else if data.toNat < 0x20 || 0x7E < data.toNat then some .badChar
  else if b.count = 32 then some .long
  else none

/-- A character that is no CR joins the frame (R63). -/
def addCharacter (data : Byte) (framingError : Bool) (s : State) : State :=
  s.modScan fun b =>
    { b with chars := if b.chars.length < 32 then b.chars ++ [data] else b.chars
             count := b.count + 1
             fault := match b.fault with
               | some f => some f
               | none => faultOf b data framingError }

/-- A character of the scanner line (R63). -/
def takeCharacter (data : Byte) (framingError : Bool) (s : State) : State :=
  if data = 0x0D ∧ framingError = false then endCode s else addCharacter data framingError s

/-- SCANNER_CHARACTER. -/
def execScannerCharacter (data : Byte) (framingError : Bool) (s : State) : Host.Outcome State Fault Refusal :=
  run (takeCharacter data framingError) s

/-- A change of scanner_rate discards a frame in progress, counted LINE (R62). -/
def dropCodeFrame (s : State) : State :=
  if s.scan.count = 0 then s else countDiscard .line (s.modScan Scan.noFrame)

/-! ## Hold Scanner and Release Scanner (R75) -/

/-- Hold Scanner (R75). -/
def cmdHoldScanner : Command := fun s => accept (s.modScan fun b => { b with holdHost := true })

/-- HOLD_SCANNER. -/
def execHoldScanner (tag : Byte) (s : State) : Host.Outcome State Fault Refusal :=
  runCommand (encodeFrame (.holdScanner tag)) cmdHoldScanner s

/-- Release Scanner (R75). -/
def cmdReleaseScanner : Command := fun s => accept (s.modScan fun b => { b with holdHost := false })

/-- RELEASE_SCANNER. -/
def execReleaseScanner (tag : Byte) (s : State) : Host.Outcome State Fault Refusal :=
  runCommand (encodeFrame (.releaseScanner tag)) cmdReleaseScanner s

end Sys2Proof.Machine
end

