-- ==== Sys2Proof/Machine/Management.lean ====
section
/-! DEFINITION. The Management node (12.5 to 12.8, 11.2): parameters, loadable tables, counters, indicators, identification, status, and
the commands Reset and Set Link Rate. -/

namespace Sys2Proof.Machine

/-! ## Parameters (R184) -/

/-- What a stored value does at once (R184): the timeout of a waiting head (R50), the zero tracking run (R20), the LIVE memory (R25), a
waiting SOLENOID request (R129), the overdue test (R132), the budget (R157) and the scanner line (R62). Forming the SOLENOID request
again in its place is no arrival of a request, and no grant test is made; a supply_budget_ma that takes effect at once is followed by one
(DESIGN CHOICE, log 44). -/
def parameterEffect (number value : Nat) (s : State) : State :=
  match number with
  | 1 => timeoutHead s
  | 2 => if value = 0 then s.modScale fun b => { b with zeroRun := none } else s
  | 3 => if value = 1 then s.modScale fun b => { b with liveMemory := none, liveWaits := true } else s
  | 5 => reformSolenoid s
  | 6 => checkOverdue s
  | 9 =>
    if s.supply.noGrant then grantTest (advanceLine (setBudget value s))
    else s.modSupply fun b => { b with pendingBudget := some value }
  | 13 => dropCodeFrame s
  | _ => s

/-- A parameter takes a value; the value that stands already changes nothing (R184). -/
def storeParameter (number value : Nat) (s : State) : State :=
  if s.mgmt.params.get? number = some value then s
  else parameterEffect number value (s.modMgmt fun b => { b with params := b.params.set number value })

/-- Set Parameter (R184). -/
def cmdSetParameter (number : Byte) (value : BitVec 32) : Command := fun s =>
  match storedValue number.toNat value.toNat with
  | none => refuse .unknown s
  | some v =>
    (⟨if v = value.toNat then .ok else .okClamped, .parameter v, .nothing⟩, storeParameter number.toNat v s)

/-- SET_PARAMETER. -/
def execSetParameter (tag number : Byte) (value : BitVec 32) (s : State) : Host.Outcome State Fault Refusal :=
  runCommand (encodeFrame (.setParameter tag number value)) (cmdSetParameter number value) s

/-- Get Parameter (R184). -/
def cmdGetParameter (number : Byte) : Command := fun s =>
  match s.mgmt.params.get? number.toNat with
  | none => refuse .unknown s
  | some v => acceptWith (.parameter v) s

/-- GET_PARAMETER. -/
def execGetParameter (tag number : Byte) (s : State) : Host.Outcome State Fault Refusal :=
  runCommand (encodeFrame (.getParameter tag number)) (cmdGetParameter number) s

/-! ## Clear Table (R185) -/

/-- Whether a number names a table. -/
def isTable (table : Nat) : Bool := 1 ≤ table && table ≤ 7

/-- Whether the table's user refuses a clear (R59, R142). -/
def clearRefused (table : Nat) (s : State) : Bool :=
  match table with
  | 2 => s.scale.queue.any fun r => r.tareClass != 0
  | 5 => [s.sales.slot0, s.sales.slot1].any fun o => match o with
    | some x => x.tokens.any fun t => t.state == .queued || t.state == .printing
    | none => false
  | _ => false

/-- A table becomes EMPTY (R185); the clear of table 7 clears both REACTION hold reasons (R175). -/
def clearTable (table : Nat) (s : State) : State :=
  match table with
  | 1 => s.modMgmt fun b => { b with items := .cleared 0 }
  | 2 => s.modMgmt fun b => { b with tares := .cleared 1 }
  | 3 => s.modMgmt fun b => { b with cards := .cleared 0 }
  | 4 => s.modMgmt fun b => { b with masks := .cleared 0 }
  | 5 => s.modMgmt fun b => { b with glyphs := .cleared 0 }
  | 6 => s.modMgmt fun b => { b with strobes := .cleared 0 }
  | 7 => perform .releaseSwipe (perform .releaseScanner (s.modMgmt fun b => { b with reactions := .cleared 0 }))
  | _ => s

/-- Clear Table (R185). -/
def cmdClearTable (table : Byte) : Command := fun s =>
  if !isTable table.toNat then refuse .badArg s
  else if clearRefused table.toNat s then refuse .busy s
  else accept (clearTable table.toNat s)

/-- CLEAR_TABLE. -/
def execClearTable (tag table : Byte) (s : State) : Host.Outcome State Fault Refusal :=
  runCommand (encodeFrame (.clearTable tag table)) (cmdClearTable table) s

/-! ## Load Entries (R185) -/

/-- Writes one entry at its index, replacing one that stands there. -/
def insertEntry {E : Type} (i : Nat) (e : E) : List (Nat × E) → List (Nat × E)
  | [] => [(i, e)]
  | (j, x) :: rest =>
    if i < j then (i, e) :: (j, x) :: rest else if i = j then (i, e) :: rest else (j, x) :: insertEntry i e rest

/-- Writes consecutive entries from an index on. -/
def insertEntries {E : Type} : Nat → List E → List (Nat × E) → List (Nat × E)
  | _, [], l => l
  | i, e :: rest, l => insertEntries (i + 1) rest (insertEntry i e l)

/-- The position of the first entry whose index lies outside a table (R185), counting the first entry as 1 (DESIGN CHOICE, log 23). -/
def indexFailure (table start count : Nat) : Option Nat :=
  if start < lowestIndex table ∨ highestIndex table < start then some 1
  else if start + count ≤ highestIndex table + 1 then none
  else some (highestIndex table + 2 - start)

/-- The tests of Load Entries on a table of a number and its effect (R185): a status with the position that goes with it, or the table
after the load. A start of 255 is the cursor. -/
def load {E : Type} (table : Nat) (read : List Byte → Option E) (t : Table E) (start count : Nat) (bytes : List Byte) :
    Except (Status × Option Nat) (Table E) :=
  let first := if start = 255 then t.cursor else start
  if t.state = .ready then .error (.state, none)
  else if count = 0 ∨ entriesPerLoad table < count then .error (.badArg, none)
  else if bytes.length ≠ count * entryBytes table then
    .error (.badArg, some (min (bytes.length / entryBytes table) count + 1))
  else match indexFailure table first count with
    | some p => .error (.badArg, some p)
    | none =>
      match readAll read 1 (chunks (entryBytes table) count bytes) with
      | .error p => .error (.badArg, some p)
      | .ok es => .ok ⟨.loading, insertEntries first es t.entries, first + count⟩

/-- The reply to a load, with the table put in its place. -/
def loadReply {E : Type} (r : Except (Status × Option Nat) (Table E)) (put : Table E → State → State) : Command := fun s =>
  match r with
  | .error (st, none) => refuse st s
  | .error (st, some p) => refuseAt st p s
  | .ok t => acceptWith (.loaded t.cursor t.entries.length) (put t s)

/-- Load Entries (R185). -/
def cmdLoadEntries (table start count : Byte) (entries : List Byte) : Command := fun s =>
  let m := s.mgmt
  let i := start.toNat
  let n := count.toNat
  match table.toNat with
  | 1 => loadReply (load 1 readItem m.items i n entries) (fun t => State.modMgmt fun b => { b with items := t }) s
  | 2 => loadReply (load 2 readTare m.tares i n entries) (fun t => State.modMgmt fun b => { b with tares := t }) s
  | 3 => loadReply (load 3 readCard m.cards i n entries) (fun t => State.modMgmt fun b => { b with cards := t }) s
  | 4 => loadReply (load 4 readMask m.masks i n entries) (fun t => State.modMgmt fun b => { b with masks := t }) s
  | 5 => loadReply (load 5 readGlyph m.glyphs i n entries) (fun t => State.modMgmt fun b => { b with glyphs := t }) s
  | 6 => loadReply (load 6 readStrobe m.strobes i n entries) (fun t => State.modMgmt fun b => { b with strobes := t }) s
  | 7 => loadReply (load 7 readReaction m.reactions i n entries) (fun t => State.modMgmt fun b => { b with reactions := t }) s
  | _ => refuse .badArg s

/-- LOAD_ENTRIES. -/
def execLoadEntries (tag table start count : Byte) (entries : List Byte) (s : State) : Host.Outcome State Fault Refusal :=
  runCommand (encodeFrame (.loadEntries tag table start count entries)) (cmdLoadEntries table start count entries) s

/-! ## Close Table (R186) -/

/-- The checks of R67 on one entry, given the entries at lower indices. -/
def itemOk (before : List ItemEntry) (e : ItemEntry) : Bool :=
  (e.codeLength == 0 || e.lead.length < e.codeLength)
    && (e.itemClass != .embedded || (e.codeLength != 0 && e.fieldStart + e.fieldLength - 1 ≤ e.codeLength))
    && !(before.any fun x => x.lead == e.lead && x.codeLength == e.codeLength)

/-- The index of the first entry that fails a check made against the entries at lower indices. -/
def firstBad {E : Type} (ok : List E → E → Bool) : List E → List (Nat × E) → Option Nat
  | _, [] => none
  | before, (i, e) :: rest => if ok before e then firstBad ok (before ++ [e]) rest else some i

/-- The multiple that tares must be of (R58). -/
def tareUnit (c : CalRecord) : Nat := if c.d2 = 0 then c.d1 else Nat.lcm c.d1 c.d2

/-- The validation of the Tare Table (R58): index 0 without a valid stored record; else the first entry that fails. -/
def tareFailure (stored : Option CalRecord) (entries : List (Nat × Int)) : Option Nat :=
  match stored with
  | none => some 0
  | some c => firstBad (fun _ t => 0 ≤ t && t ≤ (c.max : Int) && t % (tareUnit c : Int) == 0) [] entries

/-- The first index below a count that holds no entry (R141, R167). -/
def firstMissing {E : Type} (n : Nat) (entries : List (Nat × E)) : Option Nat :=
  (List.range n).find? fun i => !(entries.any fun p => p.1 == i)

/-- The check of R170 on one entry. -/
def reactionOk (before : List ReactionEntry) (e : ReactionEntry) : Bool :=
  !(before.any fun x => x.source == e.source && x.action.codes.1 == e.action.codes.1)

/-- The state, the number of loaded indices and the cursor of a table. -/
def tableStatus (m : Mgmt) (table : Nat) : TableStatus :=
  match table with
  | 1 => ⟨m.items.state, m.items.cursor, m.items.entries.length⟩
  | 2 => ⟨m.tares.state, m.tares.cursor, m.tares.entries.length⟩
  | 3 => ⟨m.cards.state, m.cards.cursor, m.cards.entries.length⟩
  | 4 => ⟨m.masks.state, m.masks.cursor, m.masks.entries.length⟩
  | 5 => ⟨m.glyphs.state, m.glyphs.cursor, m.glyphs.entries.length⟩
  | 6 => ⟨m.strobes.state, m.strobes.cursor, m.strobes.entries.length⟩
  | _ => ⟨m.reactions.state, m.reactions.cursor, m.reactions.entries.length⟩

/-- A table's own validation (R67, R58, R97, R99, R141, R167, R170): the index that its chapter names for the first failure. -/
def closeFailure (table : Nat) (s : State) : Option Nat :=
  match table with
  | 1 => firstBad itemOk [] s.mgmt.items.entries
  | 2 => tareFailure s.store.copy s.mgmt.tares.entries
  | 3 => firstBad (fun _ e => e.low ≤ e.high) [] s.mgmt.cards.entries
  | 4 => firstBad (fun _ e => e.keepFirst + e.keepLast ≤ 10) [] s.mgmt.masks.entries
  | 5 => firstMissing 14 s.mgmt.glyphs.entries
  | 6 => firstMissing 8 s.mgmt.strobes.entries
  | _ => firstBad reactionOk [] s.mgmt.reactions.entries

/-- A table becomes READY. -/
def setReady (table : Nat) (s : State) : State :=
  s.modMgmt fun b => match table with
    | 1 => { b with items := { b.items with state := .ready } }
    | 2 => { b with tares := { b.tares with state := .ready } }
    | 3 => { b with cards := { b.cards with state := .ready } }
    | 4 => { b with masks := { b.masks with state := .ready } }
    | 5 => { b with glyphs := { b.glyphs with state := .ready } }
    | 6 => { b with strobes := { b.strobes with state := .ready } }
    | _ => { b with reactions := { b.reactions with state := .ready } }

/-- Close Table (R186). -/
def cmdCloseTable (table expected : Byte) : Command := fun s =>
  let n := table.toNat
  let t := tableStatus s.mgmt n
  if !isTable n then refuse .badArg s
  else if t.state = .ready then refuse .state s
  else if t.loaded ≠ expected.toNat then refuseAt .mismatch t.loaded s
  else match closeFailure n s with
    | some i => refuseAt .badArg i s
    | none => accept (setReady n s)

/-- CLOSE_TABLE. -/
def execCloseTable (tag table expected : Byte) (s : State) : Host.Outcome State Fault Refusal :=
  runCommand (encodeFrame (.closeTable tag table expected)) (cmdCloseTable table expected) s

/-! ## Read Entry (R186) -/

/-- The entry at an index of a table, if it holds one. -/
def entryAt (m : Mgmt) (table i : Nat) : Option AnyEntry :=
  match table with
  | 1 => (m.items.at? i).map .item
  | 2 => (m.tares.at? i).map .tare
  | 3 => (m.cards.at? i).map .card
  | 4 => (m.masks.at? i).map .mask
  | 5 => (m.glyphs.at? i).map .glyph
  | 6 => (m.strobes.at? i).map .strobe
  | _ => (m.reactions.at? i).map .reaction

/-- Read Entry (R186). -/
def cmdReadEntry (table index : Byte) : Command := fun s =>
  let n := table.toNat
  let i := index.toNat
  if !isTable n || i < lowestIndex n || highestIndex n < i then refuse .badArg s
  else acceptWith (.entry (tableStatus s.mgmt n).state (entryAt s.mgmt n i)) s

/-- READ_ENTRY. -/
def execReadEntry (tag table index : Byte) (s : State) : Host.Outcome State Fault Refusal :=
  runCommand (encodeFrame (.readEntry tag table index)) (cmdReadEntry table index) s

/-! ## Counters (R188) -/

/-- The link counters in the order of R188. -/
def LinkCounters.values (k : LinkCounters) : List Nat :=
  [k.framesOk, k.crc, k.length, k.line, k.truncated, k.overrun, k.stray, k.unanswered]

/-- The lane counters in the order of R188. -/
def LaneCounters.values (k : LaneCounters) : List Nat :=
  [k.scans, k.rejectedScans, k.discardLong, k.discardChar, k.discardLine, k.swipesOk, k.swipesError, k.swipesLost,
   k.drawerOpens, k.noSaleOpens, k.jams, k.receiptsCut]

/-- Read Counters (R188). -/
def cmdReadCounters (group : Byte) : Command := fun s =>
  match group.toNat with
  | 0 => acceptWith (.counters s.port.counters.values) s
  | 1 => acceptWith (.counters s.mgmt.counters.values) s
  | _ => refuse .badArg s

/-- READ_COUNTERS. -/
def execReadCounters (tag group : Byte) (s : State) : Host.Outcome State Fault Refusal :=
  runCommand (encodeFrame (.readCounters tag group)) (cmdReadCounters group) s

/-- Clear Counters (R188). -/
def cmdClearCounters (group : Byte) : Command := fun s =>
  match group.toNat with
  | 0 => accept (countLink (fun _ => .zero) s)
  | 1 => accept (count (fun _ => .zero) s)
  | 2 => accept (countLink (fun _ => .zero) (count (fun _ => .zero) s))
  | _ => refuse .badArg s

/-- CLEAR_COUNTERS. -/
def execClearCounters (tag group : Byte) (s : State) : Host.Outcome State Fault Refusal :=
  runCommand (encodeFrame (.clearCounters tag group)) (cmdClearCounters group) s

/-! ## Indicators (R172 to R174) -/

/-- Set Indicator (R174). -/
def cmdSetIndicator (target value : Byte) : Command := fun s =>
  match target.toNat, readLamp value.toNat with
  | 0, some v => accept (perform (.lampA v) s)
  | 1, some v => accept (perform (.lampB v) s)
  | 2, _ => if value.toNat ≤ 20 then accept (beep value.toNat s) else refuse .badArg s
  | _, _ => refuse .badArg s

/-- SET_INDICATOR. -/
def execSetIndicator (tag target value : Byte) (s : State) : Host.Outcome State Fault Refusal :=
  runCommand (encodeFrame (.setIndicator tag target value)) (cmdSetIndicator target value) s

/-- Whether the beeper has reached its end time (R173). -/
def dueBeepEnd (s : State) : Bool :=
  match s.mgmt.beeper with
  | some e => reached s.clock.laneTime e
  | none => false

/-- The beeper falls silent at its end time (R173). -/
def endBeep (s : State) : State := if dueBeepEnd s then s.modMgmt fun b => { b with beeper := none } else s

/-- BEEP_END. -/
def execBeepEnd (s : State) : Host.Outcome State Fault Refusal := run endBeep s

/-- Whether a blinking lamp has stood 500 ms in its half period (R172), counted in whole ms of lane time (DESIGN CHOICE, log 46). -/
def Lamp.dueBlink (l : Lamp) (now : LaneTime) : Bool := l.setting == .blink && 500 ≤ (now - l.since).toNat

/-- A blinking lamp changes half at 500 ms (R172). -/
def Lamp.blink (l : Lamp) (now : LaneTime) : Lamp :=
  if l.dueBlink now then { l with lit := !l.lit, since := l.since + 500 } else l

/-- Both lamps change half where they are due (R172). -/
def blinkLamps (s : State) : State :=
  s.modMgmt fun b => { b with lampA := b.lampA.blink s.clock.laneTime, lampB := b.lampB.blink s.clock.laneTime }

/-- BLINK_PHASE. -/
def execBlinkPhase (s : State) : Host.Outcome State Fault Refusal := run blinkLamps s

/-! ## Identify and Get Status (R187) -/

/-- What Identify takes from the store summary (R29): zeros, with the restart mark clear, for an invalid record. -/
def identityOf (s : State) : Identity :=
  match s.store.copy with
  | some c => ⟨c.counter, c.restart, c.max, c.d1, c.d2, c.range1⟩
  | none => ⟨0, false, 0, 0, 0, 0⟩

/-- Identify (R187). -/
def cmdIdentify : Command := fun s => acceptWith (.identity (identityOf s)) s

/-- IDENTIFY. -/
def execIdentify (tag : Byte) (s : State) : Host.Outcome State Fault Refusal :=
  runCommand (encodeFrame (.identify tag)) cmdIdentify s

/-- The beeper's remaining sounding time in ms, 0 when silent (R174). -/
def beepRemaining (s : State) : Nat :=
  match s.mgmt.beeper with
  | some e => if reached s.clock.laneTime e then 0 else (e - s.clock.laneTime).toNat
  | none => 0

/-- What Get Status answers (R187): the rate as its code of 12.1, the occupied state-report slots as a count, and the SOLENOID grant and
request before the printer's (DESIGN CHOICE, log 19). -/
def statusOf (s : State) : StatusReport :=
  { laneTime := s.clock.laneTime, rate := s.port.rate, responses := s.port.responses.length, reports := s.port.reports.length,
    slots := flagSet [s.port.liveSlot.isSome] + flagSet [s.port.scaleSlot.isSome] + flagSet [s.port.drawerSlot.isSome]
      + flagSet [s.port.printerSlot.isSome],
    tables := [1, 2, 3, 4, 5, 6, 7].map (tableStatus s.mgmt),
    scanHost := s.scan.holdHost, scanReaction := s.scan.holdReaction, scanQueue := s.scan.holdQueue,
    swipeHost := s.swipe.holdHost, swipeReaction := s.swipe.holdReaction,
    low := s.supply.low, volts := s.supply.volts, budget := s.supply.budget, pendingBudget := s.supply.pendingBudget,
    grants := s.supply.solGrant.toList ++ s.supply.prnGrant.toList,
    requests := s.supply.solRequest.toList ++ s.supply.prnRequest.toList,
    lampA := s.mgmt.lampA.setting, lampB := s.mgmt.lampB.setting, beepMs := beepRemaining s }

/-- Get Status (R187). -/
def cmdGetStatus : Command := fun s => acceptWith (.status (statusOf s)) s

/-- GET_STATUS. -/
def execGetStatus (tag : Byte) (s : State) : Host.Outcome State Fault Refusal :=
  runCommand (encodeFrame (.getStatus tag)) cmdGetStatus s

/-! ## Set Link Rate and Reset (R177, R189) -/

/-- Set Link Rate (R177). -/
def cmdSetLinkRate (rate : Byte) : Command := fun s =>
  if 5 < rate.toNat then refuse .badArg s
  else
    (⟨.ok, .small rate.toNat, .rateChange⟩,
      s.modPort fun p => { p with pendingRate := some rate.toNat, pause := true })

/-- SET_LINK_RATE. -/
def execSetLinkRate (tag rate : Byte) (s : State) : Host.Outcome State Fault Refusal :=
  runCommand (encodeFrame (.setLinkRate tag rate)) (cmdSetLinkRate rate) s

/-- Reset (R189). -/
def cmdReset (kind : Byte) : Command := fun s =>
  match kind.toNat with
  | 0 => (⟨.ok, .empty, .laneReset⟩, s.modPort fun p => { p with pause := true })
  | 1 => (⟨.ok, .empty, .fullReset⟩, s.modPort fun p => { p with pause := true })
  | _ => refuse .badArg s

/-- RESET. -/
def execReset (tag kind : Byte) (s : State) : Host.Outcome State Fault Refusal :=
  runCommand (encodeFrame (.reset tag kind)) (cmdReset kind) s

end Sys2Proof.Machine
end

