-- ==== Sys2Proof/Machine/Resets.lean ====
section
/-! DEFINITION. Power-on, the FULL reset, the LANE reset and the loss of power: what every block is left with. -/

namespace Sys2Proof.Machine

/-- The STATE reports of a power-on or a FULL reset (R16, R135, R156), in the order of log 9. -/
def formResetStates (s : State) : State := formPrinterState (formDrawerState (formScaleState s))

/-- Every block but the Calibration store and the clocks at its power-on values, for the levels of the inputs, the readings and the
calibration then working (R16, R61, R76, R94, R125, R136, R156, R169, R189). -/
def freshBlocks (levels : InputLevels) (volts : Nat) (temp : Int) (cal : Option CalRecord) (s : State) : State :=
  { s with
    inputs := levels, port := .fresh, mgmt := .fresh, scale := .fresh cal, scan := .fresh,
    swipe := .fresh s.clock.swipeClock 0, sales := .fresh, drawer := .fresh levels.sense 0,
    printer := .fresh levels temp, supply := .fresh 2000 volts }

/-- Power-on (R16, R29): the block is read, and its record, if it is valid, is the working calibration. -/
def powerOn (levels : InputLevels) (volts : Nat) (temp : Int) (s : State) : State :=
  let cal := s.store.block.bind readImage
  formResetStates (freshBlocks levels volts temp cal
    { s with
      powered := true, clock := ⟨0, 0, 0, true⟩
      store := { block := s.store.block, copy := cal, inFlight := none, sealSwitch := levels.sealSwitch } })

/-- POWER_ON. It is the one row that acts without supply. -/
def execPowerOn (levels : InputLevels) (volts : BitVec 16) (temp : Int) (s : State) : Host.Outcome State Fault Refusal :=
  .next ((powerOn levels volts.toNat temp s).modPort Port.startFrame)

/-- The FULL reset (R189): as at power-on, but the swipe clock counts on (R77), the latest supply and temperature readings stand, the
block is not read again (R29), and a store operation in flight runs on, its image being the working calibration (R39). -/
def fullReset (levels : InputLevels) (s : State) : State :=
  let cal := match s.store.inFlight with
    | some op => some op.image
    | none => s.store.copy
  formResetStates (freshBlocks levels s.supply.volts s.printer.temp cal
    { s with
      clock := ⟨0, 0, s.clock.swipeClock, true⟩
      store := { s.store with
        inFlight := s.store.inFlight.map fun op => { op with afterFull := true }
        sealSwitch := levels.sealSwitch } })

/-- The port after a LANE reset (R189): the character in progress of a frame in transmission is still to end (log 15). -/
def Port.laneReset (p : Port) : Port :=
  { Port.fresh with rate := p.rate, tx := p.tx.map fun _ => .remnant, counters := p.counters }

/-- The Weighing engine after a LANE reset (R27, R61); a pulse cut short starts shock hold (R4), and a grant that the reset ends disturbs
the window it ends in (R3). -/
def laneScale (s : State) : Scale :=
  let cut := if s.supply.solGrant.isSome then startShock s else s
  let ended := if s.supply.noGrant then cut else markDisturbed cut
  { ended.scale with queue := [], outcomes := [], passedOver := none, liveMemory := none, liveWaits := true }

/-- The LANE reset (R189): the queues, the sales, the weigh requests, the line lists and the buffers are emptied; the parameters, the
tables, the counters, the indicators and the calibration are kept. DRAWER_STATE and PRINTER_STATE follow. -/
def laneReset (levels : InputLevels) (s : State) : State :=
  formPrinterState (formDrawerState
    { s with
      inputs := levels
      port := s.port.laneReset
      scale := laneScale s
      scan := .fresh
      swipe := .fresh s.clock.swipeClock s.swipe.counter
      sales := { Sales.fresh with nextSale := s.sales.nextSale, nextToken := s.sales.nextToken }
      drawer := .fresh levels.sense s.clock.laneTime
      printer := .fresh levels s.printer.temp
      supply := .fresh (s.supply.pendingBudget.getD s.supply.budget) s.supply.volts })

/-- LINK_BREAK: a LANE reset at the 250 ms mark of a break (R189). -/
def execLinkBreak (levels : InputLevels) (s : State) : Host.Outcome State Fault Refusal := run (laneReset levels) s

/-- Loss of power (R39): every state is lost but the nonvolatile block; a commit in flight leaves it invalid, as it is from the start of the
erase (R38). The part takes no step until power-on (log 10). -/
def powerLoss (s : State) : State :=
  { freshBlocks s.inputs 0 s.printer.temp none { s with clock := ⟨0, 0, 0, true⟩ } with
    powered := false
    store := { block := s.store.block, copy := none, inFlight := none, sealSwitch := s.inputs.sealSwitch } }

/-- POWER_LOSS. -/
def execPowerLoss (s : State) : Host.Outcome State Fault Refusal := .next (powerLoss s)

end Sys2Proof.Machine
end

