-- ==== Sys2Proof/Machine/Receipt.lean ====
section
/-! DEFINITION. Receipt printing (09): the fields of an overlay, the work that the engine takes up, the dot line, the cut feed and the
cut, the stops, and the commands of node 6. -/

namespace Sys2Proof.Machine

/-! ## Line lists -/

/-- The line list of a slot (R139). -/
def Printer.lines (b : Printer) (slot : Nat) : List LineRecord := if slot = 0 then b.lines0 else b.lines1

/-- The engine with the line list of a slot replaced. -/
def Printer.setLines (b : Printer) (slot : Nat) (l : List LineRecord) : Printer :=
  if slot = 0 then { b with lines0 := l } else { b with lines1 := l }

/-! ## Overlays and bands (9.3) -/

/-- The decimal digits of a number, without leading zeros and with at least one digit; `fuel` bounds the count. -/
def decimalDigits : Nat → Nat → List Nat
  | 0, n => [n % 10]
  | fuel + 1, n => if n < 10 then [n] else decimalDigits fuel (n / 10) ++ [n % 10]

/-- The glyph indices of a field, left to right (R143). -/
def fieldGlyphs (format : OverlayFormat) (net : Nat) : List Nat :=
  match format with
  | .kg3 => decimalDigits 10 (net / 1000) ++ [10, net / 100 % 10, net / 10 % 10, net % 10, 11, 12, 13]
  | .g0 => decimalDigits 10 net ++ [11, 13]

/-- The width of a field in columns (R143). -/
def fieldWidth (format : OverlayFormat) (net : Nat) : Nat := 12 * (fieldGlyphs format net).length

/-- The dots of one row of a glyph, its left column at a column (R141). -/
def rowDots (row : GlyphRow) (column : Nat) : Dots :=
  (List.range 12).foldl (fun dots k => if row.getMsbD k then dots ||| (1#384 <<< (column + k)) else dots) 0#384

/-- The dots of row j, from 1 to 24, of every glyph of a field (R144). -/
def fieldDots (glyphs : Table (List GlyphRow)) (j : Nat) : Nat → List Nat → Dots
  | _, [] => 0
  | column, g :: rest =>
    rowDots (((glyphs.at? g).bind fun rows => rows[j - 1]?).getD 0) column ||| fieldDots glyphs j (column + 12) rest

/-- The dots that an active overlay adds to its next band line: row 25 less the band lines that remain (R144). -/
def overlayDots (glyphs : Table (List GlyphRow)) (o : Overlay) : Dots :=
  fieldDots glyphs (25 - o.remaining) o.start (fieldGlyphs o.format o.net.toNat)

/-- The dots of every active overlay, combined by OR (R144). -/
def bandDots (s : State) : Dots :=
  s.printer.overlays.foldl (fun dots o => dots ||| overlayDots s.mgmt.glyphs o) 0

/-- OVERLAY records at the head of a list are activated while places remain (R144): gives the active overlays and the list that is
left. -/
def activate (x : Sale) : List LineRecord → List Overlay → List LineRecord × List Overlay
  | .overlay token start format :: rest, active =>
    if active.length < 4 then
      activate x rest (active ++ [⟨token, ((x.token? token).map fun t => t.figures.n).getD 0, start, format, 24⟩])
    else (.overlay token start format :: rest, active)
  | l, active => (l, active)

/-! ## Engine states, stops and the heat hold -/

/-- The engine takes a state, a stop cause and a resume state; a change of state or cause forms a PRINTER_STATE report (R138, R155). -/
def setEngine (e : PrintState) (cause : Option StopCause) (resume : Option PrintState) (s : State) : State :=
  let s' := s.modPrinter fun b => { b with engine := e, cause := cause, resume := resume }
  if s.printer.engine = e ∧ s.printer.cause = cause then s' else formPrinterState s'

/-- The cause for which the cover and the paper stop the engine (R147). -/
def sensorStop (s : State) : Option StopCause :=
  if s.printer.cover = .opened then some .cover else if s.printer.paper = .out then some .paper else none

/-- The engine has nothing to begin: it goes to IDLE, and stops there if the cover or the paper says so (R138, R147). -/
def goIdle (s : State) : State :=
  let s' := setEngine .idle none none s
  match sensorStop s with
  | some c => setEngine .stopped (some c) (some .idle) s'
  | none => s'

/-! ## Beginning a line (R146) -/

/-- Whether the engine may begin a dot line or request a cut on account of the PRINTER report list (R146, R155). -/
def printListAllows (s : State) : Bool := s.printer.reports.length < 4

/-- A dot line is composed and begun (R146, steps 3 and 4): the voltage is sampled and the allowance formed; the first request goes out,
unless the line waits for its allowance (R166), and a grant test is made. -/
def startLine (slot : Nat) (cutFeed : Bool) (dots : Dots) (s : State) : State :=
  let l : Line :=
    { slot := slot, cutFeed := cutFeed, dots := dots, volts := s.supply.volts, iDot := dotCurrent s.supply.volts,
      strobe := none, allowance := strobeAllowance s, unfired := dots, shot := none, stepping := false }
  grantTest (advanceLine (s.modPrinter fun b => { b with line := some l }))

/-- The begin and check steps of a line that the engine would produce in a state (R146 to R148); if they pass, `begin` is done. -/
def tryLine (dots : Dots) (e : PrintState) (begin_ : State → State) (s : State) : State :=
  if !printListAllows s then s
  else match sensorStop s with
    | some c => setEngine .stopped (some c) (some e) s
    | none => if dots ≠ 0 ∧ 75 ≤ s.printer.temp then setEngine .heatHold none (some e) s else begin_ s

/-- The CUTTER request of CUTTING (R152), once the PRINTER report list allows it (R155); a grant test follows. -/
def requestCut (s : State) : State := if printListAllows s then grantTest (placeRequest (cutterRequest s) s) else s

/-- The next line of the cut feed, or with none left the cut (R151). -/
def feedLine (s : State) : State :=
  if s.printer.feed = 0 then requestCut (setEngine .cutting none none s)
  else
    let slot := ((s.sales.find? (s.printer.cutSale.getD 0)).map Prod.fst).getD 0
    tryLine 0 .cutFeed (startLine slot true 0) s

/-- The cut feed begins (R151). -/
def startCutFeed (number : Nat) (s : State) : State :=
  feedLine (setEngine .cutFeed none none
    (s.modPrinter fun b => { b with cutSale := some number, feed := s.mgmt.params.cutFeedLines }))

/-- The list of a slot with the line at its head begun (R139): a RASTER record leaves, a FEED record leaves at its last line, and a
waiting OVERLAY record stays. -/
def beginRecord : List LineRecord → List LineRecord
  | .raster _ :: rest => rest
  | .feed n begun :: rest => if begun + 1 < n then .feed n (begun + 1) :: rest else rest
  | l => l

/-- The dots of its own that the line at the head of a list has (R146). -/
def recordDots : List LineRecord → Dots
  | .raster dots :: _ => dots
  | _ => 0

/-- A line of the sale in a slot: from the record at the head, or blank (R144); the line printed flag is set when it is begun (R145). The
PRINTER_STATE of the change to PRINTING is formed before the record leaves its list, and so counts it (DESIGN CHOICE, log 53). -/
def saleLine (slot : Nat) (s : State) : State :=
  let l := s.printer.lines slot
  let dots := recordDots l ||| bandDots s
  let s' := setEngine .printing none none s
  tryLine dots .printing (fun t =>
    startLine slot false dots
      ((t.modPrinter fun b => b.setLines slot (beginRecord l)).modSales fun b =>
        b.update slot fun x => { x with linePrinted := true })) s'

/-- Whether a sale ends its receipt (R138). -/
def Sale.isEnding (x : Sale) : Bool := x.state == .closing || x.state == .aborting

/-- The engine is at a point where it may begin work (R138): overlays are activated, and the slot that holds the print turn gives a
line, a blank line, a cut feed, or nothing. -/
def takeWork (s : State) : State :=
  match s.sales.turn?.bind fun i => (s.sales.at? i).map fun x => (i, x) with
  | none => goIdle s
  | some (slot, x) =>
    let (l, active) := activate x (s.printer.lines slot) s.printer.overlays
    let s' := s.modPrinter fun b => { b.setLines slot l with overlays := active }
    if !l.isEmpty then saleLine slot s'
    else if !x.isEnding then goIdle s'
    else if !active.isEmpty then saleLine slot s'
    else startCutFeed x.number s'

/-- Whether the engine has nothing outstanding: no line in production, no request and no printer grant (R146). -/
def printerFree (s : State) : Bool :=
  s.printer.line.isNone && s.supply.prnRequest.isNone && s.supply.prnGrant.isNone

/-- The engine, with nothing outstanding, takes up what its state allows: work, the cut feed, or the cut. -/
def goOn (s : State) : State :=
  if !printerFree s then s
  else match s.printer.engine with
    | .idle | .printing => takeWork s
    | .cutFeed => feedLine s
    | .cutting => requestCut s
    | .stopped | .heatHold => s

/-- LINE_BEGIN. -/
def execLineBegin (s : State) : Host.Outcome State Fault Refusal := run goOn s

/-- New work may have come for an engine that is IDLE (R138). -/
def pokePrinter (s : State) : State := if s.printer.engine = .idle then goOn s else s

/-! ## Completing a line (R145, R146) -/

/-- One band line of every active overlay completes: those with none left become PRINTED, form their report and leave. Where several
complete on one line their reports are formed in the order of activation (DESIGN CHOICE, log 45). -/
def completeBands (slot : Nat) (s : State) : State :=
  let done := s.printer.overlays.filter fun o => o.remaining ≤ 1
  let left := (s.printer.overlays.filter fun o => 1 < o.remaining).map fun o => { o with remaining := o.remaining - 1 }
  let number := ((s.sales.at? slot).map Sale.number).getD 0
  let s' := s.modPrinter fun b => { b with overlays := left }
  done.foldl (fun t o =>
    offerPrinter (.tokenPrinted o.token number o.net o.format s.clock.laneTime)
      (t.modSales fun b => b.update slot fun x => x.setToken o.token .printed)) s'

/-- The step of a line has ended (R146, step 6; R151): it counts for the sale, and the engine takes up its next work. -/
def completeLine (l : Line) (s : State) : State :=
  let s1 := (s.modPrinter fun b => { b with line := none }).modSales fun b =>
    b.update l.slot fun x => { x with dotLines := x.dotLines + 1 }
  if l.cutFeed then feedLine (s1.modPrinter fun b => { b with feed := b.feed - 1 })
  else takeWork (completeBands l.slot s1)

/-! ## The cut (R152) -/

/-- What the arbiter does at the end of a printer grant before its holder goes on (R157, R161): a pending budget takes effect, and
quiet demand that waited is raised. -/
def releasePrinterGrant (s : State) : State :=
  let s1 := takePendingBudget (markDisturbed (s.modSupply fun b => { b with prnGrant := none }))
  if s1.scale.queue.isEmpty then s1 else s1.modSupply fun b => { b with quiet := true }

/-- Whether the cut in hand is complete (R152): the home switch reads HOME, having read AWAY in this drive; a homing run needs HOME
alone (log 27). -/
def dueCutComplete (s : State) : Bool :=
  s.printer.engine == .cutting && s.supply.prnGrant.any (fun g => g.kind == .cutter) && s.printer.cutter == .home
    && (s.printer.awaySeen || s.printer.cutSale.isNone)

/-- The effects of a completed cut for its sale (R152): CLOSED, the event, the counter and the CUT report, which is formed after the SALE
report (DESIGN CHOICE, log 47). -/
def closeCutSale (number : Nat) (s : State) : State :=
  match s.sales.find? number with
  | none => s
  | some (slot, x) =>
    let s1 := count (fun k => { k with receiptsCut := satInc k.receiptsCut })
      (raiseEvent .receiptCut (changeSale slot .closed .receiptCut s))
    offerPrinter (.cut number x.aborted x.dotLines s.clock.laneTime) s1

/-- The cut is complete: the grant is released, its sale is closed, and the engine takes up its next work (R152). -/
def completeCut (s : State) : State :=
  let s1 := releasePrinterGrant s
  let s2 := match s.printer.cutSale with
    | some number => closeCutSale number s1
    | none => s1
  grantTest (takeWork (s2.modPrinter fun b => { b with cutSale := none, awaySeen := false }))

/-- CUT_COMPLETE. -/
def execCutComplete (s : State) : Host.Outcome State Fault Refusal :=
  run (fun s => if dueCutComplete s then completeCut s else s) s

/-- The cutter home switch reads a level (R137, R152): AWAY during a drive is marked, and HOME may complete the cut. -/
def changeCutter (level : CutterLevel) (s : State) : State :=
  if s.printer.cutter = level then s
  else
    let s' := formPrinterState (s.modPrinter fun b =>
      { b with cutter := level
               awaySeen := b.awaySeen || (level == .away && s.supply.prnGrant.any fun g => g.kind == .cutter) })
    if dueCutComplete s' then completeCut s' else s'

/-- CUTTER_SWITCH_CHANGE. -/
def execCutterSwitchChange (level : CutterLevel) (s : State) : Host.Outcome State Fault Refusal :=
  run (fun s => changeCutter level { s with inputs := { s.inputs with cutter := level } }) s

/-- The end of a printer grant at its planned end (R146, R152): the end of the shot, and the next shot or the step, after a STROBE, the
completion of the line after a MOTOR, the stop after a CUTTER; the grant test follows. -/
def endPrinterGrant (g : Grant) (s : State) : State :=
  let s1 := releasePrinterGrant s
  let s2 := match g.kind with
    | .strobe => advanceLine (endShot s1)
    | .motor =>
      match s.printer.line with
      | some l => completeLine l s1
      | none => s1
    | .cutter => setEngine .stopped (some .cutter) none s1
    | .solenoid => s1
  grantTest s2

/-! ## Sensors (R137, R147, R148) -/

/-- An IDLE engine stops for the cover or the paper (R147). -/
def idleStop (s : State) : State :=
  if s.printer.engine = .idle then
    match sensorStop s with
    | some c => setEngine .stopped (some c) (some .idle) s
    | none => s
  else s

/-- A paper, near-end or cover reading has changed (R137): PRINTER_STATE, the events, and the stop of an IDLE engine. A reading that
stands already changes nothing. -/
def changePrinterSwitch (w : PrinterSwitch) (s : State) : State :=
  match w with
  | .paper level =>
    if s.printer.paper = level then s
    else
      let s' := formPrinterState (s.modPrinter fun b => { b with paper := level })
      idleStop (if level = .out then raiseEvent .paperOut s' else s')
  | .nearEnd level =>
    if s.printer.nearEnd = level then s
    else
      let s' := formPrinterState (s.modPrinter fun b => { b with nearEnd := level })
      if level = .nearEnd then raiseEvent .paperNearEnd s' else s'
  | .cover level =>
    if s.printer.cover = level then s
    else idleStop (formPrinterState (s.modPrinter fun b => { b with cover := level }))

/-- The input levels after a change of one of the three switches. -/
def InputLevels.with (i : InputLevels) : PrinterSwitch → InputLevels
  | .paper level => { i with paper := level }
  | .nearEnd level => { i with nearEnd := level }
  | .cover level => { i with cover := level }

/-- PRINTER_SWITCH_CHANGE. -/
def execPrinterSwitchChange (w : PrinterSwitch) (s : State) : Host.Outcome State Fault Refusal :=
  run (fun s => changePrinterSwitch w { s with inputs := InputLevels.with s.inputs w }) s

/-- A new head temperature (R137, R148): at 60 °C or below the engine leaves HEAT_HOLD for its resume state. -/
def takeTemperature (temp : Int) (s : State) : State :=
  let s' := s.modPrinter fun b => { b with temp := temp }
  if s.printer.engine = .heatHold ∧ temp ≤ 60 then goOn (setEngine (s.printer.resume.getD .printing) none none s') else s'

/-- THERMISTOR_READING. -/
def execThermistorReading (temp : Int) (s : State) : Host.Outcome State Fault Refusal := run (takeTemperature temp) s

/-! ## Commands -/

/-- The record tests of R140 on one record, with the tokens that earlier OVERLAY records of the frame name: a refusal, or the line
record. -/
def testRecord (s : State) (x : Sale) (named : List Nat) : RawRecord → Except Status LineRecord
  | .raster dots => .ok (.raster dots)
  | .feed n => if 1 ≤ n then .ok (.feed n 0) else .error .badArg
  | .overlay token start f =>
    match readFormat f with
    | none => .error .badArg
    | some format =>
      if 383 < start then .error .badArg
      else match x.token? token with
        | none => .error .badToken
        | some t =>
          if t.state ≠ .captured ∨ named.contains token then .error .badToken
          else if s.mgmt.glyphs.state ≠ .ready then .error .notReady
          else if 384 < start + fieldWidth format t.figures.n.toNat then .error .badArg
          else .ok (.overlay token start format)

/-- The tokens that line records name. -/
def namedTokens : List LineRecord → List Nat
  | .overlay token _ _ :: rest => token :: namedTokens rest
  | _ :: rest => namedTokens rest
  | [] => []

/-- Reads and tests the records of a frame in order (R140): the first failure with its position, or the line records. `fuel` bounds the
count of records. A payload that ends inside a record fails in that record's turn, so after NO_SALE, STATE and an earlier record's failure
(DESIGN CHOICE, log 51). -/
def testRecords (s : State) (x : Sale) : Nat → List LineRecord → List Byte → Except (Status × Nat) (List LineRecord)
  | _, acc, [] => .ok acc
  | 0, acc, _ => .error (.badArg, acc.length + 1)
  | fuel + 1, acc, bytes =>
    match readRecord bytes with
    | none => .error (.badArg, acc.length + 1)
    | some (raw, rest) =>
      match testRecord s x (namedTokens acc) raw with
      | .error st => .error (st, acc.length + 1)
      | .ok r => testRecords s x fuel (acc ++ [r]) rest

/-- Append Lines (R140). -/
def cmdAppendLines (sale : BitVec 16) (records : List Byte) : Command := fun s =>
  match s.sales.find? sale.toNat with
  | none => refuse .noSale s
  | some (slot, x) =>
    if ¬(x.state = .opened ∨ x.state = .tendering ∨ x.state = .settled) then refuse .state s
    else if records.isEmpty then refuse .badArg s
    else match testRecords s x records.length [] records with
      | .error (st, n) => refuseAt st n s
      | .ok new =>
        let l := s.printer.lines slot ++ new
        if 160 < l.length then refuse .noRoom s
        else
          let s1 := s.modPrinter fun b => b.setLines slot l
          let s2 := s1.modSales fun b => b.update slot fun x =>
            x.mapTokens (fun t => (namedTokens new).contains t.number) fun t => { t with state := .queued }
          acceptWith (.small l.length) (pokePrinter s2)

/-- APPEND_LINES. -/
def execAppendLines (tag : Byte) (sale : BitVec 16) (records : List Byte) (s : State) : Host.Outcome State Fault Refusal :=
  runCommand (encodeFrame (.appendLines tag sale records)) (cmdAppendLines sale records) s

/-- Close Receipt (R150). -/
def cmdCloseReceipt (sale : BitVec 16) : Command := fun s =>
  match s.sales.find? sale.toNat with
  | none => refuse .noSale s
  | some (slot, x) =>
    if x.state ≠ .settled then refuse .state s
    else if x.countTokens .captured ≠ 0 then refuseAt .incomplete (x.countTokens .captured) s
    else if !saleListAllows s then refuse .busy s
    else accept (pokePrinter (changeSale slot .closing .closeReceipt s))

/-- CLOSE_RECEIPT. -/
def execCloseReceipt (tag : Byte) (sale : BitVec 16) (s : State) : Host.Outcome State Fault Refusal :=
  runCommand (encodeFrame (.closeReceipt tag sale)) (cmdCloseReceipt sale) s

/-- Resume Printing (R149). -/
def cmdResumePrinting : Command := fun s =>
  if s.printer.engine ≠ .stopped ∨ (sensorStop s).isSome then refuse .state s
  else if s.printer.cause = some .cutter then accept (requestCut (setEngine .cutting none none s))
  else accept (goOn (setEngine (s.printer.resume.getD .idle) none none s))

/-- RESUME_PRINTING. -/
def execResumePrinting (tag : Byte) (s : State) : Host.Outcome State Fault Refusal :=
  runCommand (encodeFrame (.resumePrinting tag)) cmdResumePrinting s

/-! ## What an abort does (R153) -/

/-- Abort Sale's step 2 for a slot: its records are discarded, the overlays of the sale that holds the print turn are removed, and its
QUEUED and PRINTING tokens become VOIDED (R121, R153). -/
def abortLines (slot : Nat) (s : State) : State :=
  let s1 := s.modPrinter fun b =>
    { b.setLines slot [] with overlays := if s.sales.turn? = some slot then [] else b.overlays }
  s1.modSales fun b => b.update slot fun x =>
    x.mapTokens (fun t => t.state == .queued || t.state == .printing) fun t => { t with state := .voided }

end Sys2Proof.Machine
end

