-- ==== Sys2Proof/Machine/Sales.lean ====
section
/-! DEFINITION. The sale commands (07): from Open Sale to Release Sale, and Get Sale. -/

namespace Sys2Proof.Machine

/-! ## Opening and tendering (7.3) -/

/-- The sale numbers that the slots hold (R106). -/
def saleNumbers (b : Sales) : List Nat :=
  (b.slot0.map fun x => [x.number]).getD [] ++ (b.slot1.map fun x => [x.number]).getD []

/-- The lower-numbered FREE slot (R110). -/
def Sales.freeSlot? (b : Sales) : Option Nat := if b.slot0.isNone then some 0 else if b.slot1.isNone then some 1 else none

/-- A new sale record (R110). -/
def newSale (number : Nat) (first : Bool) : Sale :=
  { number := number, state := .opened, first := first, due := 0, tenders := [], tokens := [], refs := [], loyalty := none,
    linePrinted := false, dotLines := 0, aborted := false }

/-- Opens a sale in a slot (R106, R107, R110), with its SALE report. -/
def openSlot (slot : Nat) (number : Nat) (s : State) : State :=
  let x := newSale number (s.sales.at? (1 - slot)).isNone
  let s' := s.modSales fun b => { b.put slot (some x) with nextSale := nextNumber number }
  offerSale (saleReportOf s' slot x .free .openSale) s'

/-- Open Sale (R110). -/
def cmdOpenSale : Command := fun s =>
  if s.sales.current?.isSome then refuse .state s
  else match s.sales.freeSlot? with
    | none => refuse .noRoom s
    | some slot =>
      if !saleListAllows s then refuse .busy s
      else
        let number := firstFree (saleNumbers s.sales) 2 s.sales.nextSale
        acceptWith (.opened number slot) (openSlot slot number s)

/-- OPEN_SALE. -/
def execOpenSale (tag : Byte) (s : State) : Host.Outcome State Fault Refusal :=
  runCommand (encodeFrame (.openSale tag)) cmdOpenSale s

/-- The highest amount of money (R105). -/
def maxMoney : Nat := 99999999

/-- A command on the sale of a number (R109): NO_SALE when no slot holds it. -/
def onSale (number : BitVec 16) (f : Nat → Sale → Command) : Command := fun s =>
  match s.sales.find? number.toNat with
  | none => refuse .noSale s
  | some (slot, x) => f slot x s

/-- The record of a slot is replaced. -/
def putSale (slot : Nat) (x : Sale) (s : State) : State := s.modSales fun b => b.put slot (some x)

/-- Set Due (R111). -/
def cmdSetDue (sale : BitVec 16) (amount : BitVec 32) : Command := onSale sale fun slot x s =>
  if !x.isCurrent then refuse .state s
  else if maxMoney < amount.toNat then refuse .badArg s
  else accept (putSale slot { x with due := amount.toNat } s)

/-- SET_DUE. -/
def execSetDue (tag : Byte) (sale : BitVec 16) (amount : BitVec 32) (s : State) : Host.Outcome State Fault Refusal :=
  runCommand (encodeFrame (.setDue tag sale amount)) (cmdSetDue sale amount) s

/-- Begin Tender (R112). -/
def cmdBeginTender (sale : BitVec 16) : Command := onSale sale fun slot x s =>
  if x.state ≠ .opened then refuse .state s
  else if s.scale.queue.any fun r => r.sale == x.number then refuse .pendingWeigh s
  else if !saleListAllows s then refuse .busy s
  else accept (changeSale slot .tendering .beginTender s)

/-- BEGIN_TENDER. -/
def execBeginTender (tag : Byte) (sale : BitVec 16) (s : State) : Host.Outcome State Fault Refusal :=
  runCommand (encodeFrame (.beginTender tag sale)) (cmdBeginTender sale) s

/-- Resume Sale (R113). -/
def cmdResumeSale (sale : BitVec 16) : Command := onSale sale fun slot x s =>
  if x.state ≠ .tendering ∨ !x.tenders.isEmpty then refuse .state s
  else if !saleListAllows s then refuse .busy s
  else accept (changeSale slot .opened .resumeSale s)

/-- RESUME_SALE. -/
def execResumeSale (tag : Byte) (sale : BitVec 16) (s : State) : Host.Outcome State Fault Refusal :=
  runCommand (encodeFrame (.resumeSale tag sale)) (cmdResumeSale sale) s

/-- The tests of R114 on the card reference that a tender names, if it names one. -/
def referenceOk (x : Sale) (kind : TenderKind) (ref : Option Nat) (required : Bool) : Bool :=
  match ref with
  | some i =>
    kind != .cash && 1 ≤ i && i ≤ x.refs.length && !(x.tenders.any fun t => t.ref == some i)
  | none => !(kind == .card && required)

/-- The permit that a tender grants (R114). -/
def permitGranted (kind : TenderKind) (change : Nat) : TenderPermit :=
  if kind = .cash ∨ 0 < change then .unused else .none

/-- An optional index: FF hex is absent (R190). -/
def optionalIndex (b : Byte) : Option Nat := if b = 0xFF then none else some b.toNat

/-- Add Tender (R114). -/
def cmdAddTender (sale : BitVec 16) (kind : Byte) (amount change : BitVec 32) (ref : Byte) : Command :=
  onSale sale fun slot x s =>
    if x.state ≠ .tendering then refuse .state s
    else match readTenderKind kind with
      | none => refuse .badArg s
      | some k =>
        if ¬(1 ≤ amount.toNat ∧ amount.toNat ≤ maxMoney ∧ change.toNat ≤ amount.toNat) then refuse .badArg s
        else if !referenceOk x k (optionalIndex ref) (s.mgmt.params.cardTenderRequiresRef == 1) then refuse .badArg s
        else if 8 ≤ x.tenders.length then refuse .noRoom s
        else
          let t : Tender := ⟨k, amount.toNat, change.toNat, optionalIndex ref, permitGranted k change.toNat⟩
          let y := { x with tenders := x.tenders ++ [t] }
          acceptWith (.tender y.tenders.length y.granted) (putSale slot y s)

/-- ADD_TENDER. -/
def execAddTender (tag : Byte) (sale : BitVec 16) (kind : Byte) (amount change : BitVec 32) (ref : Byte) (s : State) :
    Host.Outcome State Fault Refusal :=
  runCommand (encodeFrame (.addTender tag sale kind amount change ref)) (cmdAddTender sale kind amount change ref) s

/-- Withdraw Tender (R115). -/
def cmdWithdrawTender (sale : BitVec 16) : Command := onSale sale fun slot x s =>
  if x.state ≠ .tendering then refuse .state s
  else match x.tenders.getLast? with
    | none => refuse .state s
    | some t =>
      if t.permit = .used then refuse .drawer s
      else
        let y := { x with tenders := x.tenders.dropLast }
        acceptWith (.small y.granted) (putSale slot y s)

/-- WITHDRAW_TENDER. -/
def execWithdrawTender (tag : Byte) (sale : BitVec 16) (s : State) : Host.Outcome State Fault Refusal :=
  runCommand (encodeFrame (.withdrawTender tag sale)) (cmdWithdrawTender sale) s

/-- The balance of a sale's tenders (R116). -/
def Sale.balance (x : Sale) : Int := (x.amounts : Int) - (x.changes : Int)

/-- Settle (R116). -/
def cmdSettle (sale : BitVec 16) : Command := onSale sale fun slot x s =>
  if x.state ≠ .tendering then refuse .state s
  else if x.balance ≠ (x.due : Int) then (⟨.balance, .balance x.balance x.due, .nothing⟩, s)
  else if !saleListAllows s then refuse .busy s
  else accept (raiseEvent .saleSettled (changeSale slot .settled .settle s))

/-- SETTLE. -/
def execSettle (tag : Byte) (sale : BitVec 16) (s : State) : Host.Outcome State Fault Refusal :=
  runCommand (encodeFrame (.settle tag sale)) (cmdSettle sale) s

/-- Void Token (R119). -/
def cmdVoidToken (sale token : BitVec 16) : Command := onSale sale fun slot x s =>
  if !x.isCurrent then refuse .state s
  else match x.token? token.toNat with
    | none => refuse .badToken s
    | some t =>
      if t.state = .voided then refuse .badToken s
      else if t.state ≠ .captured then refuse .printed s
      else accept (putSale slot (x.setToken token.toNat .voided) s)

/-- VOID_TOKEN. -/
def execVoidToken (tag : Byte) (sale token : BitVec 16) (s : State) : Host.Outcome State Fault Refusal :=
  runCommand (encodeFrame (.voidToken tag sale token)) (cmdVoidToken sale token) s

/-! ## Ending a sale (7.6) -/

/-- Abort Sale's five steps for the sale in a slot (R121), and then any work that the Print engine finds (R153, log 31). -/
def abort (slot : Nat) (x : Sale) (s : State) : State :=
  let s1 := endWhere (fun r => r.sale == x.number) .cancelled s
  let s2 := abortLines slot s1
  let s3 := s2.modSales fun b => b.update slot fun y => { y with refs := [], loyalty := none, aborted := true }
  goOn (changeSale slot (if x.linePrinted then .aborting else .closed) .abortSale s3)

/-- Abort Sale (R121). -/
def cmdAbortSale (sale : BitVec 16) : Command := onSale sale fun slot x s =>
  if !x.isCurrent || !x.tenders.isEmpty then refuse .state s
  else if !saleListAllows s then refuse .busy s
  else accept (abort slot x s)

/-- ABORT_SALE. -/
def execAbortSale (tag : Byte) (sale : BitVec 16) (s : State) : Host.Outcome State Fault Refusal :=
  runCommand (encodeFrame (.abortSale tag sale)) (cmdAbortSale sale) s

/-- Whether the drawer serves a permit of a sale (R122). -/
def drawerServes (b : Drawer) (number : Nat) : Bool :=
  match b.permit with
  | some (.tender sale _) =>
    sale == number && (b.state == .waitGrant || b.state == .pulsing || b.state == .confirming || b.state == .opened
      || b.state == .overdue)
  | _ => false

/-- The slot of a CLOSED sale goes FREE (R107, R122): the SALE report carries the figures that it held, and a sale in the other slot
becomes FIRST, keeping the print turn if, CLOSED too, it took it as SECOND. -/
def release (slot : Nat) (x : Sale) (s : State) : State :=
  let r := saleReportOf s slot { x with state := .free } x.state .releaseSale
  let other := s.sales.at? (1 - slot)
  offerSale r (s.modSales fun b =>
    { (b.put slot none).put (1 - slot) (other.map fun y => { y with first := true }) with
      turnKept := x.first && other.any fun y => y.state == .closed })

/-- Release Sale (R122). -/
def cmdReleaseSale (sale : BitVec 16) : Command := onSale sale fun slot x s =>
  if x.state ≠ .closed then refuse .state s
  else if drawerServes s.drawer x.number then refuse .drawer s
  else if !saleListAllows s then refuse .busy s
  else accept (release slot x s)

/-- RELEASE_SALE. -/
def execReleaseSale (tag : Byte) (sale : BitVec 16) (s : State) : Host.Outcome State Fault Refusal :=
  runCommand (encodeFrame (.releaseSale tag sale)) (cmdReleaseSale sale) s

/-! ## Get Sale (R123) -/

/-- The characters that a token takes in a response (R55, R190; log 21). -/
def Token.size (t : Token) : Nat := 27 + (t.itemCode.map List.length).getD 0

/-- The tokens at the head of a list, up to `most`, that fit in the characters left. -/
def tokensFitting : Nat → Nat → List Token → List Token
  | 0, _, _ => []
  | _, _, [] => []
  | most + 1, left, t :: rest => if t.size ≤ left then t :: tokensFitting most (left - t.size) rest else []

/-- The part of a record that Get Sale gives; none for an argument out of its values. The slot's state alone answers for a FREE slot. -/
def salePart (s : State) (slot part : Nat) (start : Option Nat) : Option Result :=
  let known := part ≤ 1 ∨ part = 3 ∨ (part = 2 ∧ ∃ n ∈ start, 1 ≤ n ∧ n ≤ 64)
  if 1 < slot ∨ ¬known then none
  else match s.sales.at? slot with
    | none => some .freeSlot
    | some x =>
      some (match part with
        | 0 => .summary x.state x.number x.first (x.summary (s.sales.turn? == some slot))
        | 1 => .tenders x.tenders
        | 2 => .tokens (tokensFitting 8 238 (x.tokens.drop (start.getD 1 - 1)))
        | _ => .references x.refs x.loyalty)

/-- Get Sale (R123). -/
def cmdGetSale (slot part : Byte) (start : Option Byte) : Command := fun s =>
  match salePart s slot.toNat part.toNat (start.map BitVec.toNat) with
  | some r => acceptWith r s
  | none => refuse .badArg s

/-- GET_SALE. -/
def execGetSale (tag slot part : Byte) (start : Option Byte) (s : State) : Host.Outcome State Fault Refusal :=
  runCommand (encodeFrame (.getSale tag slot part start)) (cmdGetSale slot part start) s

end Sys2Proof.Machine
end

