-- ==== Sys2Proof/Machine/Supply.lean ====
section
/-! DEFINITION. The rows of the Supply arbiter (10): the grant test, the end of a grant, and the supply monitor. -/

namespace Sys2Proof.Machine

/-- GRANT: a grant test (R160). -/
def execGrant (s : State) : Host.Outcome State Fault Refusal := run grantTest s

/-- Whether a grant has reached its planned end (R159). -/
def Grant.due (g : Grant) (c : Clock) : Bool := g.duration ≤ c.microsSince g.start

/-- A grant at its planned end (R159): the printer's, or else the solenoid's, whose end is the pulse end (R130). -/
def endGrant (s : State) : State :=
  match s.supply.prnGrant.filter fun g => g.due s.clock with
  | some g => endPrinterGrant g s
  | none => if s.supply.solGrant.any fun g => g.due s.clock then endPulse s else s

/-- GRANT_END. -/
def execGrantEnd (s : State) : Host.Outcome State Fault Refusal := run endGrant s

/-- A reading of the supply voltage (R162): the supply state with its hysteresis, its events, and the grant test on return to NORMAL. -/
def takeVolts (volts : Nat) (s : State) : State :=
  let s' := s.modSupply fun b => { b with volts := volts }
  if s.supply.low then
    if 6300 ≤ volts then grantTest (raiseEvent .supplyOk (s'.modSupply fun b => { b with low := false })) else s'
  else if volts < 6000 then raiseEvent .lowSupply (s'.modSupply fun b => { b with low := true })
  else s'

/-- SUPPLY_READING. -/
def execSupplyReading (volts : BitVec 16) (s : State) : Host.Outcome State Fault Refusal := run (takeVolts volts.toNat) s

end Sys2Proof.Machine
end

