-- ==== Sys2Proof/Machine/SwipeDecode.lean ====
section
/-! DEFINITION. Card swipe decoding (05): edges and the boundaries of a swipe, the stages from intervals to fields, and the holds. -/

namespace Sys2Proof.Machine

/-! ## From intervals to bits (5.4) -/

/-- The initial cell time: intervals 5 to 12 summed, divided by 8 and rounded to nearest (R84). -/
def cellTime (intervals : List Nat) : Nat :=
  (roundDiv ((((intervals.drop 4).take 8).foldl (· + ·) 0 : Nat) : Int) 8).toNat

/-- The number of the first interval outside 20 to 2,000 µs, counting on from the number of the first of these (R84). -/
def firstOutside : Nat → List Nat → Option Nat
  | _, [] => none
  | n, d :: rest => if d < 20 ∨ 2000 < d then some n else firstOutside (n + 1) rest

/-- Whether an interval is long against a cell time (R85). -/
def isLong (t d : Nat) : Bool := 3 * t ≤ 4 * d

/-- The bits of the intervals from a number on, against the cell time in force; or the number of a short interval without its pair
(R85). -/
def cellBits : Nat → Nat → List Nat → Except Nat (List Bool)
  | _, _, [] => .ok []
  | n, t, [d] => if isLong t d then .ok [false] else .error n
  | n, t, d :: e :: rest =>
    if isLong t d then (cellBits (n + 1) ((3 * t + d) / 4) (e :: rest)).map (false :: ·)
    else if isLong t e then .error n
    else (cellBits (n + 2) ((3 * t + d + e) / 4) rest).map (true :: ·)

/-! ## Characters (5.5) -/

/-- A character of a track: its value and whether its parity is odd (R86). -/
structure TrackChar where
  value : Nat
  odd   : Bool
deriving DecidableEq, Repr

/-- The character of five bits, data least significant first, then parity (R86). -/
def trackChar (a b c d p : Bool) : TrackChar :=
  { value := a.toNat + 2 * b.toNat + 4 * c.toNat + 8 * d.toNat
    odd := (a.toNat + b.toNat + c.toNat + d.toNat + p.toNat) % 2 == 1 }

/-- The next character of a bit string and the bits after it, if five remain. -/
def nextChar : List Bool → Option (TrackChar × List Bool)
  | a :: b :: c :: d :: p :: rest => some (trackChar a b c d p, rest)
  | _ => none

/-- The bit string from the start sentinel on, if the search finds it (R87). -/
def findStart (bits : List Bool) : Option (List Bool) :=
  let t := bits.dropWhile fun b => !b
  if t.take 5 = [true, true, false, true, false] then some t else none

/-- The start search, forward and then reversed (R87). -/
def searchStart (bits : List Bool) : Option (Direction × List Bool) :=
  match findStart bits with
  | some t => some (.forward, t)
  | none => (findStart bits.reverse).map fun t => (.reverse, t)

/-- The reading pass (R88): up to `most` characters, through the first of value 15; whether an end sentinel was taken; the bits after
it. -/
def readTrack : Nat → List Bool → List TrackChar × Bool × List Bool
  | 0, bits => ([], false, bits)
  | most + 1, bits =>
    match nextChar bits with
    | none => ([], false, bits)
    | some (c, rest) =>
      if c.value = 15 then ([c], true, rest)
      else
        let r := readTrack most rest
        (c :: r.1, r.2)

/-- The position of the first character that fails a test, counting on from a position (R89). -/
def firstFailing (test : TrackChar → Bool) : Nat → List TrackChar → Option Nat
  | _, [] => none
  | n, c :: rest => if test c then firstFailing test (n + 1) rest else some n

/-- A digit or a separator (R86). -/
def TrackChar.valid (c : TrackChar) : Bool := c.value ≤ 9 || c.value == 13

/-- Whether the LRC character matches the characters from the start sentinel through the end sentinel (R90). -/
def lrcOk (chars : List TrackChar) (rest : List Bool) : Bool :=
  match nextChar rest with
  | none => false
  | some (l, _) => l.odd && l.value == chars.foldl (fun x c => x ^^^ c.value) 0

/-! ## Fields (R91) -/

/-- No field. -/
def CardFields.none : CardFields := ⟨.none, .none, .none, .none, .none⟩

/-- The fields after the separator: EXPIRY, SERVICE and DISCRETIONARY (R91). -/
def afterSeparator (account digits : List Nat) : CardFields :=
  let f := { CardFields.none with account := some account }
  if digits.length < 4 then { f with discretionary := some digits }
  else
    let g := { f with expiry := some (digits.take 4) }
    let rest := digits.drop 4
    if rest.length < 3 then { g with discretionary := some rest }
    else { g with service := some (rest.take 3), discretionary := some (rest.drop 3) }

/-- The split of the characters between the sentinels into fields, 13 being the separator (R91). -/
def splitFields (values : List Nat) : Option CardFields :=
  let account := values.takeWhile fun v => v != 13
  match values.drop account.length with
  | [] => if values.isEmpty then .none else some { CardFields.none with number := some values }
  | _ :: digits =>
    if digits.contains 13 ∨ account.length < 12 ∨ 19 < account.length then .none
    else some (afterSeparator account digits)

/-! ## The stages (R83) -/

/-- What decoding makes of an interval list. -/
structure Decoding where
  outcome   : SwipeOutcome
  position  : Option Nat
  cell      : Option Nat
  direction : Option Direction
  fields    : CardFields
deriving DecidableEq, Repr

/-- Stages 6 to 10, on the bits from the start sentinel on. -/
def decodeTrack (cell : Nat) (direction : Direction) (bits : List Bool) : Decoding :=
  let failed (o : SwipeOutcome) (position : Option Nat) : Decoding := ⟨o, position, some cell, some direction, .none⟩
  let r := readTrack 40 bits
  match firstFailing TrackChar.odd 1 r.1 with
  | some n => failed .parity (some n)
  | none =>
    match firstFailing TrackChar.valid 2 (r.1.drop 1).dropLast with
    | some n => failed .character (some n)
    | none =>
      if !r.2.1 then failed .noEnd none
      else if !lrcOk r.1 r.2.2 then failed .lrc none
      else match splitFields ((r.1.drop 1).dropLast.map TrackChar.value) with
        | some f => ⟨.ok, none, some cell, some direction, f⟩
        | none => failed .format none

/-- The ten stages in their order (R83). -/
def decodeIntervals (overflow : Bool) (intervals : List Nat) : Decoding :=
  if overflow then ⟨.tooLong, none, none, none, .none⟩
  else if intervals.length < 13 then ⟨.tooShort, none, none, none, .none⟩
  else
    let cell := cellTime intervals
    match firstOutside 5 (intervals.drop 4) with
    | some n => ⟨.speed, some n, some cell, none, .none⟩
    | none =>
      match cellBits 13 cell (intervals.drop 12) with
      | .error n => ⟨.cell, some n, some cell, none, .none⟩
      | .ok bits =>
        match searchStart (List.replicate 8 false ++ bits) with
        | none => ⟨.noStart, none, some cell, none, .none⟩
        | some (direction, track) => decodeTrack cell direction track

/-- The card record of a swipe that ends now with a number (R92). -/
def cardRecordOf (s : State) (number : Nat) : CardRecord :=
  let d := decodeIntervals s.swipe.overflow s.swipe.intervals
  { swipe := number, endTime := s.clock.laneTime, outcome := d.outcome, position := d.position,
    count := s.swipe.intervals.length, cell := d.cell, direction := d.direction, fields := d.fields }

/-! ## Edges and the boundaries of a swipe (5.1) -/

/-- Microseconds since the last reversal time (R77). -/
def swipeQuiet (s : State) : Nat := (s.clock.swipeClock - s.swipe.lastReversal).toNat

/-- A flux reversal, by the capture state (R77, R79). -/
def takeEdge (s : State) : State :=
  let now := s.clock.swipeClock
  match s.swipe.capture with
  | .held => s
  | .waiting => s.modSwipe fun b => { b with lastReversal := now }
  | .armed => s.modSwipe fun b => { b with capture := .capturing, intervals := [], overflow := false, lastReversal := now }
  | .capturing =>
    if s.swipe.intervals.length < 1200 then
      s.modSwipe fun b => { b with intervals := b.intervals ++ [swipeQuiet s], lastReversal := now }
    else s.modSwipe fun b => { b with overflow := true, lastReversal := now }

/-- SWIPE_EDGE. -/
def execSwipeEdge (s : State) : Host.Outcome State Fault Refusal := run takeEdge s

/-- Whether the head has been quiet for 50 ms in WAITING (R78). -/
def dueArm (s : State) : Bool := s.swipe.capture == .waiting && 50000 ≤ swipeQuiet s

/-- The decoder is ARMED (R78). -/
def armSwipe (s : State) : State := if dueArm s then s.modSwipe fun b => { b with capture := .armed } else s

/-- SWIPE_ARM. -/
def execSwipeArm (s : State) : Host.Outcome State Fault Refusal := run armSwipe s

/-- Whether a swipe has gone 20 ms without an edge (R80). -/
def dueSwipeEnd (s : State) : Bool := s.swipe.capture == .capturing && 20000 ≤ swipeQuiet s

/-- A record is formed in the decode buffer and counted (R92). -/
def formRecord (c : CardRecord) (s : State) : State :=
  count (fun k => if c.outcome = .ok then { k with swipesOk := satInc k.swipesOk }
      else { k with swipesError := satInc k.swipesError })
    (s.modSwipe fun b => { b with decodeBuffer := some c })

/-- A swipe ends (R80): it takes its number; it is decoded, and processed if the report buffer is empty, or it is lost. -/
def endSwipe (s : State) : State :=
  let number := s.swipe.counter
  let s' := s.modSwipe fun b => { b with capture := .waiting, counter := (b.counter + 1) % 65536 }
  if s.swipe.decodeBuffer.isSome then count (fun k => { k with swipesLost := satInc k.swipesLost }) s'
  else processWaitingCard (formRecord (cardRecordOf s number) s')

/-- SWIPE_END. -/
def execSwipeEnd (s : State) : Host.Outcome State Fault Refusal :=
  run (fun s => if dueSwipeEnd s then endSwipe s else s) s

/-! ## Hold Swipe and Release Swipe (R82) -/

/-- Hold Swipe (R82). -/
def cmdHoldSwipe : Command := fun s => accept (setSwipeHolds true s.swipe.holdReaction s)

/-- HOLD_SWIPE. -/
def execHoldSwipe (tag : Byte) (s : State) : Host.Outcome State Fault Refusal :=
  runCommand (encodeFrame (.holdSwipe tag)) cmdHoldSwipe s

/-- Release Swipe (R82). -/
def cmdReleaseSwipe : Command := fun s => accept (setSwipeHolds false s.swipe.holdReaction s)

/-- RELEASE_SWIPE. -/
def execReleaseSwipe (tag : Byte) (s : State) : Host.Outcome State Fault Refusal :=
  runCommand (encodeFrame (.releaseSwipe tag)) cmdReleaseSwipe s

end Sys2Proof.Machine
end

