-- ==== Sys2Proof/Machine/Link.lean ====
section
/-! DEFINITION. The Lane Link (12): frames character by character, the dispatch of a frame to its command, the admission of reports, and
the end of a transmission. -/

namespace Sys2Proof.Machine

/-! ## From a frame to its command (R180) -/

/-- The tests and the effect of a host command; none for a row that is no command of a node. -/
def commandOf : Instr → Option Command
  | .identify _ => some cmdIdentify
  | .getStatus _ => some cmdGetStatus
  | .setParameter _ number value => some (cmdSetParameter number value)
  | .getParameter _ number => some (cmdGetParameter number)
  | .clearTable _ table => some (cmdClearTable table)
  | .loadEntries _ table start count entries => some (cmdLoadEntries table start count entries)
  | .closeTable _ table expected => some (cmdCloseTable table expected)
  | .readEntry _ table index => some (cmdReadEntry table index)
  | .readCounters _ group => some (cmdReadCounters group)
  | .clearCounters _ group => some (cmdClearCounters group)
  | .setIndicator _ target value => some (cmdSetIndicator target value)
  | .reset _ kind => some (cmdReset kind)
  | .setLinkRate _ rate => some (cmdSetLinkRate rate)
  | .holdScanner _ => some cmdHoldScanner
  | .releaseScanner _ => some cmdReleaseScanner
  | .holdSwipe _ => some cmdHoldSwipe
  | .releaseSwipe _ => some cmdReleaseSwipe
  | .setZero _ => some cmdSetZero
  | .requestWeight _ tareClass sale => some (cmdRequestWeight tareClass sale)
  | .cancelWeighRequest _ token => some (cmdCancelWeighRequest token)
  | .setCapacity _ max d1 d2 range1 => some (cmdSetCapacity max d1 d2 range1)
  | .captureCalZero _ => some cmdCaptureCalZero
  | .captureCalPoint _ index mass => some (cmdCaptureCalPoint index mass)
  | .setCalPoint _ index n mass => some (cmdSetCalPoint index n mass)
  | .commitCalibration _ => some cmdCommitCalibration
  | .discardCalibration _ => some cmdDiscardCalibration
  | .openSale _ => some cmdOpenSale
  | .setDue _ sale amount => some (cmdSetDue sale amount)
  | .beginTender _ sale => some (cmdBeginTender sale)
  | .resumeSale _ sale => some (cmdResumeSale sale)
  | .addTender _ sale kind amount change ref => some (cmdAddTender sale kind amount change ref)
  | .withdrawTender _ sale => some (cmdWithdrawTender sale)
  | .settle _ sale => some (cmdSettle sale)
  | .voidToken _ sale token => some (cmdVoidToken sale token)
  | .abortSale _ sale => some (cmdAbortSale sale)
  | .releaseSale _ sale => some (cmdReleaseSale sale)
  | .getSale _ slot part start => some (cmdGetSale slot part start)
  | .openDrawer _ sale => some (cmdOpenDrawer sale)
  | .openDrawerNoSale _ => some cmdOpenDrawerNoSale
  | .appendLines _ sale records => some (cmdAppendLines sale records)
  | .closeReceipt _ sale => some (cmdCloseReceipt sale)
  | .resumePrinting _ => some cmdResumePrinting
  | _ => none

/-- What dispatch performs for a frame (R180): UNKNOWN for no command, BAD_ARG for a payload that the command does not take, and
otherwise the command. -/
def frameCommand (f : Frame) : Command :=
  match decodeFrame f with
  | .unknown => refuse .unknown
  | .badLength => refuse .badArg
  | .command i => (commandOf i).getD (refuse .unknown)

/-- UNKNOWN_COMMAND: a frame whose node or code names no command (R180). -/
def execUnknownCommand (tag : Byte) (node : BitVec 3) (code : Byte) (payload : List Byte) (s : State) :
    Host.Outcome State Fault Refusal :=
  runCommand (encodeFrame (.unknownCommand tag node code payload)) (frameCommand ⟨node, code, tag, payload⟩) s

/-! ## Characters received (R178) -/

/-- The characters of a frame after its header: the length, the tag, the code, the payload and the CRC (R178, 13.2). -/
def frameChars (f : Frame) : List Byte :=
  let body := byteOf f.payload.length :: f.tag :: f.code :: f.payload
  body ++ be16 (crc16 body)

/-- The frame of the characters that followed a header. -/
def frameOfChars (node : BitVec 3) (chars : List Byte) : Frame :=
  ⟨node, chars.getD 2 0, chars.getD 1 0, (chars.drop 3).take (chars.getD 0 0).toNat⟩

/-- The frame in assembly is discarded; whether the data characters up to the next header are then ignored (R178). -/
def dropAssembly (ignore : Bool) (s : State) : State :=
  s.modPort fun p => { p with assembly := none, ignoring := ignore }

/-- A header (R178): of class COMMAND it begins a frame; of any other class it discards a frame in assembly, and the data characters that
follow count stray. -/
def takeHeader (data : Byte) (s : State) : State :=
  if data.extractLsb' 6 2 = 0 then beginFrame (data.extractLsb' 0 3) s
  else
    dropAssembly false
      (if s.port.assembly.isSome then countLink (fun k => { k with truncated := satInc k.truncated }) s else s)

/-- A frame is complete at its second CRC character (R178): with a matching CRC it is accepted, otherwise it is discarded. -/
def completeFrame (node : BitVec 3) (chars : List Byte) (s : State) : State :=
  let n := (chars.getD 0 0).toNat + 3
  if be16 (crc16 (chars.take n)) = chars.drop n then
    let f := frameOfChars node chars
    acceptFrame f (frameCommand f) (dropAssembly false s)
  else countLink (fun k => { k with crc := satInc k.crc }) (dropAssembly false s)

/-- A data character of the frame in assembly (R178). -/
def takeData (a : Assembly) (data : Byte) (s : State) : State :=
  let chars := a.chars ++ [data]
  if 240 < (chars.getD 0 0).toNat then countLink (fun k => { k with length := satInc k.length }) (dropAssembly true s)
  else if chars.length = (chars.getD 0 0).toNat + 5 then completeFrame a.node chars s
  else s.modPort fun p => { p with assembly := some ⟨a.node, chars⟩ }

/-- A character outside a frame counts stray, unless it is a data character that is being ignored (R178, log 13). -/
def takeStray (mark : Bool) (s : State) : State :=
  if s.port.ignoring && !mark then s else countLink (fun k => { k with stray := satInc k.stray }) s

/-- A character of the Lane Link (R178). -/
def takeLinkCharacter (mark : Bool) (data : Byte) (framingError : Bool) (s : State) : State :=
  match s.port.assembly, framingError with
  | some _, true => countLink (fun k => { k with line := satInc k.line }) (dropAssembly true s)
  | none, true => takeStray mark s
  | some a, false => if mark then takeHeader data s else takeData a data s
  | none, false => if mark then takeHeader data s else takeStray mark s

/-- LINK_CHARACTER_RECEIVED. -/
def execLinkCharacterReceived (mark : Bool) (data : Byte) (framingError : Bool) (s : State) :
    Host.Outcome State Fault Refusal :=
  run (takeLinkCharacter mark data framingError) s

/-! ## Admission (R182) -/

/-- The candidates in the order of the rotation, beginning with the one after the rotation mark. -/
def rotation (mark : Nat) : List Nat := (List.range 10).map fun i => (mark + i) % 10 + 1

/-- The oldest report of a candidate, with the state after it has been taken: candidate 2's slot takes the hold reason QUEUE with it
(R73). -/
def takeCandidate (k : Nat) (s : State) : Option (Report × State) :=
  match k with
  | 1 => s.scale.outcomes.head?.map fun r => (.weight r, s.modScale fun b => { b with outcomes := b.outcomes.tail })
  | 2 => s.scan.slot.map fun r => (.scan r, s.modScan fun b => { b with slot := none, holdQueue := false })
  | 3 => s.swipe.reportBuffer.map fun r => (.card r, s.modSwipe fun b => { b with reportBuffer := none })
  | 4 => s.sales.reports.head?.map fun r => (.sale r, s.modSales fun b => { b with reports := b.reports.tail })
  | 5 => s.drawer.reports.head?.map fun r => (.drawer r, s.modDrawer fun b => { b with reports := b.reports.tail })
  | 6 => s.printer.reports.head?.map fun r => (.printer r, s.modPrinter fun b => { b with reports := b.reports.tail })
  | 7 => s.port.liveSlot.map fun r => (.live r, s.modPort fun p => { p with liveSlot := none })
  | 8 => s.port.scaleSlot.map fun r => (.scaleState r, s.modPort fun p => { p with scaleSlot := none })
  | 9 => s.port.drawerSlot.map fun r => (.drawerState r, s.modPort fun p => { p with drawerSlot := none })
  | 10 => s.port.printerSlot.map fun r => (.printerState r, s.modPort fun p => { p with printerSlot := none })
  | _ => none

/-- The first candidate of a rotation that holds a report. -/
def firstCandidate (s : State) : List Nat → Option (Nat × Report × State)
  | [] => none
  | k :: rest =>
    match takeCandidate k s with
    | some (r, s') => some (k, r, s')
    | none => firstCandidate s rest

/-- What a source that has given a report goes on to do: the scanner processes the frame that waits (R73), Card rules the record that
waits (R93), the drawer a change held back (R126), and the Print engine the line or the cut that it held back (R146, R155). -/
def afterAdmission (k : Nat) (s : State) : State :=
  match k with
  | 2 => processWaitingScan s
  | 3 => processWaitingCard s
  | 5 => takeDeferred s
  | 6 => goOn s
  | _ => s

/-- A place in the report queue that is free goes to one waiting report (R182). -/
def admitReport (s : State) : State :=
  if s.port.hasRoom then
    match firstCandidate s (rotation s.port.mark) with
    | some (k, r, s') => afterAdmission k ((enqueue r s').modPort fun p => { p with mark := k })
    | none => s
  else s

/-- REPORT_ADMISSION. -/
def execReportAdmission (s : State) : Host.Outcome State Fault Refusal := run admitReport s

/-! ## The end of a transmission (R181) -/

/-- Complete frames that waited are dispatched in their order, until the pause is set again (R179). -/
def dispatchAll : List Frame → State → State
  | [], s => s.modPort fun p => { p with waiting := [] }
  | f :: rest, s =>
    if s.port.pause then s.modPort fun p => { p with waiting := f :: rest }
    else dispatchAll rest (dispatch f (frameCommand f) (s.modPort fun p => { p with waiting := rest }))

/-- The pending rate takes effect (R177): a frame in assembly is discarded and counted LINE, unless the rate is the one that stands; the
pause clears, and the frames that waited are dispatched. -/
def changeRate (s : State) : State :=
  let rate := s.port.pendingRate.getD s.port.rate
  let s1 :=
    if s.port.assembly.isSome ∧ rate ≠ s.port.rate then
      countLink (fun k => { k with line := satInc k.line }) (dropAssembly true s)
    else s
  let s2 := s1.modPort fun p => { p with rate := rate, pendingRate := none, pause := false }
  dispatchAll s2.port.waiting s2

/-- What the end of a response brings about (R177, R189). -/
def afterResponse (a : AfterSend) (levels : InputLevels) (s : State) : State :=
  match a with
  | .nothing => s
  | .rateChange => changeRate s
  | .laneReset => laneReset levels s
  | .fullReset => fullReset levels s

/-- What the end of a frame brings about before the next is taken (R24, R181): a SCALE_STATE report that has left the part takes its
pending flags with it (log 28). -/
def frameLeft (x : TxFrame) (levels : InputLevels) (s : State) : State :=
  match x with
  | .report (.scaleState r) => s.modScale fun b => { b with flags := b.flags.less r.flags }
  | .response r => afterResponse r.after levels s
  | _ => s

/-- Whether a report is in transmission. -/
def sendsReport (p : Port) : Bool :=
  match p.tx with
  | some (.report _) => true
  | _ => false

/-- The transmitter takes its next frame; a report leaves a free place, which goes to a waiting report (R181, R182). -/
def takeNextFrame (s : State) : State :=
  let s' := s.modPort Port.startFrame
  if sendsReport s'.port then admitReport s' else s'

/-- The last character of the frame in transmission ends (R181). -/
def endFrame (levels : InputLevels) (s : State) : State :=
  match s.port.tx with
  | none => s
  | some x => takeNextFrame (frameLeft x levels (s.modPort fun p => { p with tx := none }))

/-- FRAME_TRANSMIT_END. -/
def execFrameTransmitEnd (levels : InputLevels) (s : State) : Host.Outcome State Fault Refusal := run (endFrame levels) s

end Sys2Proof.Machine
end

