-- ==== Sys2Proof/Machine/Dispatch.lean ====
section
/-! DEFINITION. The dispatch: one arm per command, one meaning each. -/

namespace Sys2Proof.Machine

def exec (i : Instr) (s : State) : Host.Outcome State Fault Refusal :=
  match i with
  | .powerOn levels volts temp => Sys2Proof.Machine.execPowerOn levels volts temp s
  | .linkBreak levels => Sys2Proof.Machine.execLinkBreak levels s
  | .linkCharacterReceived mark data framingError => Sys2Proof.Machine.execLinkCharacterReceived mark data framingError s
  | .unknownCommand tag node code payload => Sys2Proof.Machine.execUnknownCommand tag node code payload s
  | .frameTransmitEnd levels => Sys2Proof.Machine.execFrameTransmitEnd levels s
  | .reportAdmission => Sys2Proof.Machine.execReportAdmission s
  | .identify tag => Sys2Proof.Machine.execIdentify tag s
  | .getStatus tag => Sys2Proof.Machine.execGetStatus tag s
  | .setParameter tag number value => Sys2Proof.Machine.execSetParameter tag number value s
  | .getParameter tag number => Sys2Proof.Machine.execGetParameter tag number s
  | .clearTable tag table => Sys2Proof.Machine.execClearTable tag table s
  | .loadEntries tag table start count entries => Sys2Proof.Machine.execLoadEntries tag table start count entries s
  | .closeTable tag table expected => Sys2Proof.Machine.execCloseTable tag table expected s
  | .readEntry tag table index => Sys2Proof.Machine.execReadEntry tag table index s
  | .readCounters tag group => Sys2Proof.Machine.execReadCounters tag group s
  | .clearCounters tag group => Sys2Proof.Machine.execClearCounters tag group s
  | .setIndicator tag target value => Sys2Proof.Machine.execSetIndicator tag target value s
  | .reset tag kind => Sys2Proof.Machine.execReset tag kind s
  | .setLinkRate tag rate => Sys2Proof.Machine.execSetLinkRate tag rate s
  | .holdScanner tag => Sys2Proof.Machine.execHoldScanner tag s
  | .releaseScanner tag => Sys2Proof.Machine.execReleaseScanner tag s
  | .holdSwipe tag => Sys2Proof.Machine.execHoldSwipe tag s
  | .releaseSwipe tag => Sys2Proof.Machine.execReleaseSwipe tag s
  | .sampleTrigger raw => Sys2Proof.Machine.execSampleTrigger raw s
  | .liveReport => Sys2Proof.Machine.execLiveReport s
  | .starvation => Sys2Proof.Machine.execStarvation s
  | .converterFaultEntry => Sys2Proof.Machine.execConverterFaultEntry s
  | .converterFaultExit => Sys2Proof.Machine.execConverterFaultExit s
  | .warmingEnd => Sys2Proof.Machine.execWarmingEnd s
  | .zeroTracking => Sys2Proof.Machine.execZeroTracking s
  | .shockHoldEnd => Sys2Proof.Machine.execShockHoldEnd s
  | .sealSwitchChange level => Sys2Proof.Machine.execSealSwitchChange level s
  | .setZero tag => Sys2Proof.Machine.execSetZero tag s
  | .requestWeight tag tareClass sale => Sys2Proof.Machine.execRequestWeight tag tareClass sale s
  | .cancelWeighRequest tag token => Sys2Proof.Machine.execCancelWeighRequest tag token s
  | .weighTimeout => Sys2Proof.Machine.execWeighTimeout s
  | .setCapacity tag max d1 d2 range1 => Sys2Proof.Machine.execSetCapacity tag max d1 d2 range1 s
  | .captureCalZero tag => Sys2Proof.Machine.execCaptureCalZero tag s
  | .captureCalPoint tag index mass => Sys2Proof.Machine.execCaptureCalPoint tag index mass s
  | .setCalPoint tag index count mass => Sys2Proof.Machine.execSetCalPoint tag index count mass s
  | .commitCalibration tag => Sys2Proof.Machine.execCommitCalibration tag s
  | .calEraseEnd => Sys2Proof.Machine.execCalEraseEnd s
  | .commitComplete => Sys2Proof.Machine.execCommitComplete s
  | .discardCalibration tag => Sys2Proof.Machine.execDiscardCalibration tag s
  | .scannerCharacter data framingError => Sys2Proof.Machine.execScannerCharacter data framingError s
  | .scanProcessing => Sys2Proof.Machine.execScanProcessing s
  | .swipeEdge => Sys2Proof.Machine.execSwipeEdge s
  | .swipeArm => Sys2Proof.Machine.execSwipeArm s
  | .swipeEnd => Sys2Proof.Machine.execSwipeEnd s
  | .cardProcessing => Sys2Proof.Machine.execCardProcessing s
  | .openSale tag => Sys2Proof.Machine.execOpenSale tag s
  | .setDue tag sale amount => Sys2Proof.Machine.execSetDue tag sale amount s
  | .beginTender tag sale => Sys2Proof.Machine.execBeginTender tag sale s
  | .resumeSale tag sale => Sys2Proof.Machine.execResumeSale tag sale s
  | .addTender tag sale kind amount change ref => Sys2Proof.Machine.execAddTender tag sale kind amount change ref s
  | .withdrawTender tag sale => Sys2Proof.Machine.execWithdrawTender tag sale s
  | .settle tag sale => Sys2Proof.Machine.execSettle tag sale s
  | .voidToken tag sale token => Sys2Proof.Machine.execVoidToken tag sale token s
  | .abortSale tag sale => Sys2Proof.Machine.execAbortSale tag sale s
  | .releaseSale tag sale => Sys2Proof.Machine.execReleaseSale tag sale s
  | .getSale tag slot part start => Sys2Proof.Machine.execGetSale tag slot part start s
  | .openDrawer tag sale => Sys2Proof.Machine.execOpenDrawer tag sale s
  | .openDrawerNoSale tag => Sys2Proof.Machine.execOpenDrawerNoSale tag s
  | .grant => Sys2Proof.Machine.execGrant s
  | .grantEnd => Sys2Proof.Machine.execGrantEnd s
  | .drawerPulseEnd => Sys2Proof.Machine.execDrawerPulseEnd s
  | .confirmationDeadline => Sys2Proof.Machine.execConfirmationDeadline s
  | .drawerOverdue => Sys2Proof.Machine.execDrawerOverdue s
  | .drawerSenseChange level => Sys2Proof.Machine.execDrawerSenseChange level s
  | .drawerSenseDeferred => Sys2Proof.Machine.execDrawerSenseDeferred s
  | .appendLines tag sale records => Sys2Proof.Machine.execAppendLines tag sale records s
  | .closeReceipt tag sale => Sys2Proof.Machine.execCloseReceipt tag sale s
  | .resumePrinting tag => Sys2Proof.Machine.execResumePrinting tag s
  | .lineBegin => Sys2Proof.Machine.execLineBegin s
  | .cutComplete => Sys2Proof.Machine.execCutComplete s
  | .printerSwitchChange switch => Sys2Proof.Machine.execPrinterSwitchChange switch s
  | .thermistorReading temp => Sys2Proof.Machine.execThermistorReading temp s
  | .supplyReading volts => Sys2Proof.Machine.execSupplyReading volts s
  | .beepEnd => Sys2Proof.Machine.execBeepEnd s
  | .blinkPhase => Sys2Proof.Machine.execBlinkPhase s
  | .powerLoss => Sys2Proof.Machine.execPowerLoss s
  | .cutterSwitchChange level => Sys2Proof.Machine.execCutterSwitchChange level s

end Sys2Proof.Machine
end

