-- ==== Sys2Proof/Machine/Idle.lean ====
section
/-! DEFINITION. What happens while no command waits: the timers, each by the rule of its own row, and one microsecond of time. -/

namespace Sys2Proof.Machine

/-- Whether an erase has run its longest (R38). -/
def dueEraseEnd (s : State) : Bool := s.store.inFlight.any fun op => !op.writing && 25000 ≤ storeMicros s op

/-- Whether a write has run its longest (R38). -/
def dueWriteEnd (s : State) : Bool := s.store.inFlight.any fun op => op.writing && 15000 ≤ storeMicros s op

/-- Whether an active grant has reached its planned end (R159). -/
def dueGrantEnd (s : State) : Bool :=
  s.supply.prnGrant.any (fun g => g.due s.clock) || s.supply.solGrant.any fun g => g.due s.clock

/-- Whether a lamp is due to change half (R172). -/
def dueBlink (s : State) : Bool := s.mgmt.lampA.dueBlink s.clock.laneTime || s.mgmt.lampB.dueBlink s.clock.laneTime

/-- The timers, each with its due test and its act, in the order in which the model takes those that fall together (log 2). -/
def timers : List ((State → Bool) × (State → State)) :=
  [(dueCutComplete, completeCut), (duePulseEnd, endPulse), (dueGrantEnd, endGrant), (dueShockEnd, endShock),
   (dueDeadline, passDeadline), (dueOverdue, checkOverdue), (dueTimeout, timeoutHead), (dueEraseEnd, endErase),
   (dueWriteEnd, endWrite), (dueSwipeEnd, endSwipe), (dueArm, armSwipe), (dueBeepEnd, endBeep), (dueBlink, blinkLamps)]

/-- One microsecond passes (R1, R77): a head that an expiry has seated is tested from now on (R50, log 52), and past a trigger instant a new
conversion window has not been disturbed (R3). -/
def tick (s : State) : State :=
  let s' := (s.modClock Clock.tick).modScale fun b => { b with passedOver := none }
  if s'.clock.phase = 1 then s'.modScale fun b => { b with disturbed := false } else s'

/-- What the part does while no command waits (log 2): the first timer that is due acts; otherwise time passes. -/
def idleEffect (s : State) : State :=
  match timers.find? fun t => t.1 s with
  | some t => t.2 s
  | none => tick s

/-- The idle step; without supply nothing happens (log 10). -/
def idle (s : State) : Host.Outcome State Fault Refusal := run idleEffect s

end Sys2Proof.Machine
end

