-- ==== Sys2Proof/Safety.lean ====
section
/-! DEFINITION. What the statements about the part are said in: what the host will receive, when a command is performed, what a step
may leave behind, and the conditions that every step keeps. -/

namespace Sys2Proof.Machine

/-! ## What the host receives -/

/-- The responses that the part sends or holds to be sent, oldest first (R180, R181). -/
def Port.answers (p : Port) : List Response :=
  (match p.tx with
    | some (.response r) => [r]
    | _ => []) ++ p.responses

/-- The reports that the part sends or holds in its queue, oldest first (R181, R182). -/
def Port.sending (p : Port) : List Report :=
  (match p.tx with
    | some (.report r) => [r]
    | _ => []) ++ p.reports

/-- A WEIGHT report, if it is one. -/
def Report.weight? : Report → Option WeightReport
  | .weight r => some r
  | _ => none

/-- A SCAN report, if it is one. -/
def Report.scan? : Report → Option ScanReport
  | .scan r => some r
  | _ => none

/-- A CARD report, if it is one. -/
def Report.card? : Report → Option CardReport
  | .card r => some r
  | _ => none

/-- A SALE report, if it is one. -/
def Report.sale? : Report → Option SaleReport
  | .sale r => some r
  | _ => none

/-- A DRAWER report, if it is one. -/
def Report.drawer? : Report → Option DrawerReport
  | .drawer r => some r
  | _ => none

/-- A PRINTER report, if it is one. -/
def Report.printer? : Report → Option PrinterReport
  | .printer r => some r
  | _ => none

/-- The WEIGHT reports formed and not yet sent, in the order formed: the one being sent, those queued, those held (R54, R182). -/
def State.weightTrail (s : State) : List WeightReport := s.port.sending.filterMap Report.weight? ++ s.scale.outcomes

/-- The SCAN reports formed and not yet sent (R73, R182). -/
def State.scanTrail (s : State) : List ScanReport := s.port.sending.filterMap Report.scan? ++ s.scan.slot.toList

/-- The CARD reports formed and not yet sent (R93, R182). -/
def State.cardTrail (s : State) : List CardReport := s.port.sending.filterMap Report.card? ++ s.swipe.reportBuffer.toList

/-- The SALE reports formed and not yet sent (R124, R182). -/
def State.saleTrail (s : State) : List SaleReport := s.port.sending.filterMap Report.sale? ++ s.sales.reports

/-- The DRAWER reports formed and not yet sent (R135, R182). -/
def State.drawerTrail (s : State) : List DrawerReport := s.port.sending.filterMap Report.drawer? ++ s.drawer.reports

/-- The PRINTER reports formed and not yet sent (R155, R182). -/
def State.printerTrail (s : State) : List PrinterReport := s.port.sending.filterMap Report.printer? ++ s.printer.reports

/-- A STATE report that the host will receive, unless a newer one of its kind takes its place: it is being sent, queued, or in its
slot (R183). -/
def Port.shows (p : Port) (r : Report) : Prop :=
  r ∈ p.sending ∨
    match r with
    | .live x => p.liveSlot = some x
    | .scaleState x => p.scaleSlot = some x
    | .drawerState x => p.drawerSlot = some x
    | .printerState x => p.printerSlot = some x
    | _ => False

/-- The report in the slot of a STATE kind, if there is one (R183). -/
def Port.slotReport (p : Port) : StateKind → Option Report
  | .live => p.liveSlot.map .live
  | .scaleState => p.scaleSlot.map .scaleState
  | .drawerState => p.drawerSlot.map .drawerState
  | .printerState => p.printerSlot.map .printerState

/-- The port with a STATE report in the slot of its kind (R183). -/
def Port.withSlot (p : Port) : Report → Port
  | .live r => { p with liveSlot := some r }
  | .scaleState r => { p with scaleSlot := some r }
  | .drawerState r => { p with drawerSlot := some r }
  | .printerState r => { p with printerSlot := some r }
  | _ => p

/-- One STATE report of a kind is placed (R183): in the queue it takes the place of the one of its kind, failing that in its slot the place
of the one there, failing that it joins the end of the queue if a place is free and nothing waits for it, and else it enters its slot. -/
def StatePlaced (s : State) (k : StateKind) (r : Report) (p : Port) : Prop :=
  (∀ before old after, s.port.reports = before ++ old :: after → old.stateKind = some k →
      p = { s.port with reports := before ++ r :: after })
    ∧ ((∀ q ∈ s.port.reports, q.stateKind ≠ some k) →
      (s.port.slotReport k ≠ none → p = s.port.withSlot r)
      ∧ (s.port.slotReport k = none → s.port.reports.length < 24 → nothingWaits s = true →
          p = { s.port with reports := s.port.reports ++ [r] })
      ∧ (s.port.slotReport k = none → 24 ≤ s.port.reports.length ∨ nothingWaits s = false → p = s.port.withSlot r))

/-- The reports that a step forms while a frame is in transmission (R182, R183). The queued EVENT reports stand as they are and a queued
STATE report gives way in its place to one of its kind only. Reports join the end of the queue only if, when the step begins, a place is
free and nothing waits for one, and then none waits after it but behind 24. An EVENT report that has not joined stands at the end of its
source's list. A filled slot stays filled, and the slot of a kind that stands in the queue is left alone. -/
def ReportsPlaced (s t : State) : Prop :=
  t.port.tx = s.port.tx
    ∧ (∃ kept joined, t.port.reports = kept ++ joined ∧ kept.length = s.port.reports.length
      ∧ (∀ p ∈ s.port.reports.zip kept, p.2.stateKind = p.1.stateKind ∧ (p.1.stateKind = none → p.2 = p.1))
      ∧ (joined ≠ [] → s.port.reports.length < 24 ∧ nothingWaits s = true ∧ t.port.reports.length ≤ 24))
    ∧ (24 ≤ s.port.reports.length ∨ nothingWaits s = true → 24 ≤ t.port.reports.length ∨ nothingWaits t = true)
    ∧ s.scale.outcomes <+: t.scale.outcomes ∧ s.sales.reports <+: t.sales.reports
    ∧ s.drawer.reports <+: t.drawer.reports ∧ s.printer.reports <+: t.printer.reports
    ∧ (∀ r, s.scan.slot = some r → t.scan.slot = some r) ∧ (∀ r, s.swipe.reportBuffer = some r → t.swipe.reportBuffer = some r)
    ∧ ∀ k, (s.port.slotReport k ≠ none → t.port.slotReport k ≠ none)
        ∧ (s.port.queues k = true → t.port.slotReport k = s.port.slotReport k)

/-! ## A command of the host -/

/-- A whole frame that arrives now is performed and answered: the part has its supply, no dispatch pause stands, a receive buffer is
empty and fewer than 4 responses are queued (R179, R180). -/
abbrev Ready (s : State) : Prop :=
  s.powered = true ∧ s.port.pause = false ∧ s.port.waiting.length < 2 ∧ s.port.responses.length < 4

/-- The response to a command (R180). -/
def responseTo (i : Instr) (st : Status) (r : Result) (after : AfterSend) : Response :=
  ⟨(encodeFrame i).node, (encodeFrame i).code, (encodeFrame i).tag, st, r, after⟩

/-- The link counters once a frame has been accepted: frames ok, and TRUNCATED if its header cut a frame in assembly (R178). -/
def countedFrame (p : Port) : LinkCounters :=
  { p.counters with
    framesOk := satInc p.counters.framesOk
    truncated := if p.assembly.isSome then satInc p.counters.truncated else p.counters.truncated }

/-- What a performed command leaves of the port: rate, pause, waiting frames and rotation mark stand, no frame is in assembly, and the
frame has been counted. Responses, reports, slots and the frame in transmission are said apart. -/
def LinkFrame (s t : State) : Prop :=
  t.port = { s.port with
    assembly := none, ignoring := false, counters := countedFrame s.port, responses := t.port.responses,
    reports := t.port.reports, tx := t.port.tx, liveSlot := t.port.liveSlot, scaleSlot := t.port.scaleSlot,
    drawerSlot := t.port.drawerSlot, printerSlot := t.port.printerSlot }

/-- No report has been formed, sent or replaced. -/
def NoReport (s t : State) : Prop :=
  t.port.sending = s.port.sending ∧ t.port.liveSlot = s.port.liveSlot ∧ t.port.scaleSlot = s.port.scaleSlot
    ∧ t.port.drawerSlot = s.port.drawerSlot ∧ t.port.printerSlot = s.port.printerSlot

/-- Of the port nothing has changed but the STATE reports that it holds (R183): every other report stands in its order. -/
def OnlyStateReports (s t : State) : Prop :=
  t.port = { s.port with
      reports := t.port.reports, liveSlot := t.port.liveSlot, scaleSlot := t.port.scaleSlot, drawerSlot := t.port.drawerSlot
      printerSlot := t.port.printerSlot }
    ∧ t.port.sending.filter (fun r => r.stateKind.isNone) = s.port.sending.filter fun r => r.stateKind.isNone

/-- A command runs to a next state, answers as given behind the responses already formed, leaves the port as `LinkFrame` says, and the
next state is as `p` says. -/
def Performs (i : Instr) (s : State) (st : Status) (r : Result) (p : State → Prop) : Prop :=
  ∃ t, exec i s = .next t ∧ t.port.answers = s.port.answers ++ [responseTo i st r .nothing] ∧ LinkFrame s t ∧ p t

/-- A command runs to a next state, answers as given, and changes nothing else: every refused command (R180), and one that only reads. -/
def OnlyAnswers (i : Instr) (s : State) (st : Status) (r : Result) : Prop :=
  Performs i s st r fun t => NoReport s t ∧ t = { s with port := t.port }

/-- The tests that Add Tender makes on its arguments (R114): the amount and the change; a reference, if one is named, is not named by
CASH, stands in the list and is named by no other tender; a CARD tender names one while card_tender_requires_ref is 1. -/
def TenderArgumentsOk (s : State) (x : Sale) (k : TenderKind) (amount change : Nat) (ref : Option Nat) : Prop :=
  1 ≤ amount ∧ amount ≤ 99999999 ∧ change ≤ amount
    ∧ (∀ i, ref = some i → k ≠ .cash ∧ 1 ≤ i ∧ i ≤ x.refs.length ∧ ∀ y ∈ x.tenders, y.ref ≠ some i)
    ∧ (k = .card → s.mgmt.params.cardTenderRequiresRef = 1 → ref.isSome = true)

/-! ## A command of the lane -/

/-- A row of the lane or of a timer runs to a next state that is as `p` says. -/
def Runs (i : Instr) (s : State) (p : State → Prop) : Prop := ∃ t, exec i s = .next t ∧ p t

/-- Of the port nothing has changed but that an idle transmitter may have begun its next frame. -/
def PortStands (s t : State) : Prop := t.port = s.port.startFrame

/-! ## The load -/

/-- A full window whose largest value exceeds its smallest by no more than the interval of the newest allows (R13). -/
def Steady (c : CalRecord) (window : List Int) : Prop :=
  window.length = 24 ∧ ∃ newest, window.getLast? = some newest
    ∧ ∀ x ∈ window, ∀ y ∈ window, x - y ≤ 1000 * c.interval newest

/-- The load condition and the weight shown for a gross value and a stability window (R12, R14). -/
def LoadIs (c : CalRecord) (gross : Int) (window : List Int) (load : LoadCond) (shown : Option Int) : Prop :=
  (1000 * ((c.max : Int) + 9 * c.dTop) < gross → load = .over ∧ shown = none)
    ∧ (gross < -(20000 * (c.d1 : Int)) → load = .under ∧ shown = none)
    ∧ (gross ≤ 1000 * ((c.max : Int) + 9 * c.dTop) → -(20000 * (c.d1 : Int)) ≤ gross →
        shown = some (c.indicated gross)
        ∧ (¬Steady c window → load = .motion)
        ∧ (Steady c window → c.indicated gross = 0 → load = .zero)
        ∧ (Steady c window → c.indicated gross ≠ 0 → load = .stable))

/-! ## The calibration -/

/-- The tests of R32 that an edit meets first, each with its status, in order. -/
def EditRefused (s : State) (st : Status) : Prop :=
  (s.store.sealSwitch = .opened ∧ st = .sealedOff)
    ∨ (s.store.sealSwitch = .closed ∧ s.store.inFlight.isSome = true ∧ st = .busy)
    ∨ (s.store.sealSwitch = .closed ∧ s.store.inFlight = none ∧ s.scale.engine = .warming ∧ st = .state)

/-- The calibration window is full and within 20 counts (R31). -/
def CountsSteady (s : State) : Prop :=
  s.scale.calWindow.length = 24 ∧ ∀ x ∈ s.scale.calWindow, ∀ y ∈ s.scale.calWindow, x - y ≤ 20

/-- Every capacity condition of R28. -/
def CapacityLimits (c : CalRecord) : Prop :=
  1000 ≤ c.max ∧ c.max ≤ 60000 ∧ c.d1 ∈ [1, 2, 5, 10, 20, 50]
    ∧ ((c.d2 = 0 ∧ c.range1 = 0 ∧ c.max ≤ 6000 * c.d1)
      ∨ (c.d2 ∈ [1, 2, 5, 10, 20, 50] ∧ c.d1 < c.d2 ∧ c.d1 ∣ c.range1 ∧ c.d1 ≤ c.range1 ∧ c.range1 < c.max
        ∧ c.range1 ≤ 6000 * c.d1 ∧ c.max ≤ 6000 * c.d2))

/-- A change of the working calibration (R8): the windows of the filter and of the counts stand, the stability window holds at most the
newest value, so that the load is neither ZERO nor STABLE; of the rest only what the arbiter, the Reaction unit and the port do follows. -/
def Recalibrated (s t : State) (c : Option CalRecord) : Prop :=
  t.scale.cal = c ∧ t.scale.stability.length ≤ 1 ∧ t.scale.load ≠ .zero ∧ t.scale.load ≠ .stable
    ∧ t.scale.filter = s.scale.filter ∧ t.scale.newest = s.scale.newest ∧ t.scale.railRun = s.scale.railRun
    ∧ t.scale.inRangeRun = s.scale.inRangeRun ∧ t.scale.noisyRun = s.scale.noisyRun ∧ t.scale.shockEnd = s.scale.shockEnd
    ∧ t.clock = s.clock ∧ t.sales = s.sales ∧ t.mgmt.params = s.mgmt.params

/-- An event that moves the engine (R22, R33): in FAULT(CONVERTER), and in WARMING with a resume state, it replaces the resume state. -/
def MovedTo (s t : State) (e : Engine) : Prop :=
  (s.scale.engine = .faultConverter ∨ (s.scale.engine = .warming ∧ s.scale.resume.isSome = true) →
    t.scale.engine = s.scale.engine ∧ t.scale.resume = some e)
    ∧ (s.scale.engine ≠ .faultConverter → (s.scale.engine = .warming → s.scale.resume = none) →
      t.scale.engine = e ∧ t.scale.resume = s.scale.resume)

/-- What the edit copy is (R32): the working calibration, which is the copy being edited while a session is open; without one the blank
copy, on whose restart mark R32 is silent (log 48). -/
def EditCopyStands (s : State) : Prop :=
  (∀ c, s.scale.cal = some c → editCopy s = c)
    ∧ (s.scale.cal = none → ∃ mark, editCopy s = ⟨0, 0, 0, 0, 0, [], 0, mark⟩)

/-- An accepted edit (R32): the new copy is the working calibration, the first edit of a session moves the engine to CAL_EDIT, and zero
offset, armed flag, flags, requests and store stand. The SCALE_STATE of that move carries the load condition that follows (R8). -/
def Edited (s t : State) (c : CalRecord) : Prop :=
  Recalibrated s t (some c) ∧ t.scale.session = true ∧ t.scale.zMg = s.scale.zMg
    ∧ t.scale.armed = s.scale.armed
    ∧ t.scale.flags = s.scale.flags ∧ t.scale.queue = s.scale.queue ∧ t.scale.outcomes = s.scale.outcomes ∧ t.store = s.store
    ∧ t.scale.calWindow = s.scale.calWindow ∧ t.drawer = s.drawer ∧ t.printer = s.printer ∧ t.supply = s.supply
    ∧ (s.scale.session = false → MovedTo s t .calEdit)
    ∧ (s.scale.session = false → s.scale.engine ≠ .faultConverter → ∃ r, t.port.shows (.scaleState r) ∧ r.engine = .calEdit
      ∧ r.load = t.scale.load ∧ r.g = t.scale.shown)
    ∧ (s.scale.session = true → t.scale.engine = s.scale.engine ∧ t.scale.resume = s.scale.resume)

/-- A discard (R41): the working calibration is the store's copy and the session is closed; the engine moves to MEASURING, or without a
valid record to FAULT(NOT_CALIBRATED), where every waiting request ends FAULT; zero offset and armed flag stand, and CAL_DISCARDED is set
and shown. -/
def Discarded (s t : State) : Prop :=
  Recalibrated s t s.store.copy ∧ t.scale.session = false ∧ t.scale.zMg = s.scale.zMg ∧ t.scale.armed = s.scale.armed
    ∧ t.scale.flags = { s.scale.flags with calDiscarded := true }
    ∧ (s.store.copy.isSome = true → MovedTo s t .measuring ∧ t.scale.queue = s.scale.queue ∧ t.weightTrail = s.weightTrail)
    ∧ (s.store.copy = none → MovedTo s t .faultNotCalibrated
      ∧ (t.scale.engine = .faultNotCalibrated → t.scale.queue = []
        ∧ t.weightTrail = s.weightTrail ++ s.scale.queue.map (fun r => weightReportOf s r .fault none)))
    ∧ ∃ r, t.port.shows (.scaleState r) ∧ r.engine = t.scale.engine ∧ r.flags.calDiscarded = true ∧ r.zMg = s.scale.zMg

/-! ## Scans and cards -/

/-- A state in which a SCAN report has been offered (R73): it is the newest of its trail, in the queue or in the slot with the hold reason
QUEUE, and the rest is as given. -/
def ScanOffered (s u t : State) (r : ScanReport) : Prop :=
  t.scanTrail = s.scanTrail ++ [r]
    ∧ (t.scan.slot = none ∧ t.scan.holdQueue = u.scan.holdQueue ∨ t.scan.slot = some r ∧ t.scan.holdQueue = true)
    ∧ t = { u with port := t.port, scan := { u.scan with slot := t.scan.slot, holdQueue := t.scan.holdQueue } }

/-- A waiting frame is processed (R72, R73): the step leaves the state given, with its SCAN report offered. -/
def Processed (s u : State) (r : ScanReport) : Prop := ∃ t, exec .scanProcessing s = .next t ∧ ScanOffered s u t r

/-- A waiting frame is processed, and the weigh request that it makes ends at once with an outcome, in its WEIGHT report (R48, R53, R72). -/
def ProcessedAndEnded (s u : State) (r : ScanReport) (q : WeighRequest) (o : WeighOutcome) : Prop :=
  ∃ t, exec .scanProcessing s = .next t
    ∧ ScanOffered s { u with scale := { u.scale with outcomes := t.scale.outcomes } } t r
    ∧ t.weightTrail = s.weightTrail ++ [weightReportOf s q o none]

/-- The five bits of a track character: four data bits, least significant first, and the bit that makes their parity odd (R86). -/
def charBits (v : Nat) : List Bool :=
  let d := [v % 2 == 1, v / 2 % 2 == 1, v / 4 % 2 == 1, v / 8 % 2 == 1]
  d ++ [d.count true % 2 == 0]

/-- The LRC of a track: the exclusive OR from the start sentinel through the end sentinel (R90). -/
def trackLrc (values : List Nat) : Nat := (11 :: values ++ [15]).foldl (fun x v => x ^^^ v) 0

/-- The bits of a track: start sentinel, the characters, end sentinel and LRC (R86 to R90). -/
def trackBits (values : List Nat) : List Bool := (11 :: values ++ [15, trackLrc values]).flatMap charBits

/-- The intervals of bits drawn at a steady pace behind twelve of the lead: one cell of two halves for a 0, and two halves for a 1 (R84,
R85). -/
def drawn (half : Nat) (bits : List Bool) : List Nat :=
  List.replicate 12 (2 * half) ++ bits.flatMap fun b => if b then [half, half] else [2 * half]

/-! ## The Print engine and the arbiter -/

/-- The strobe time of a line's next shot (R168): the line's own, once its strobe phase has begun; until then that of the head temperature
and the Strobe Table as they stand, for the voltage sampled at its compose step. -/
def StrobeTimeIs (s : State) (l : Line) (time : Nat) : Prop :=
  (∀ t, l.strobe = some t → time = t)
    ∧ (l.strobe = none → time = strobeTime (baseTime s.mgmt.strobes s.printer.temp) l.volts)

/-- A change of the Print engine's state or of its stop cause is shown in a PRINTER_STATE report (R138, R155). -/
def PrinterShown (s t : State) : Prop :=
  t.printer.engine ≠ s.printer.engine ∨ t.printer.cause ≠ s.printer.cause →
    ∃ q, t.port.shows (.printerState q) ∧ q.engine = t.printer.engine ∧ q.cause = t.printer.cause

/-- The CUTTER request of CUTTING (R152, R155, R158, R160): it waits while the PRINTER report list holds 4; otherwise, with no solenoid
waiting, it is granted at once if it fits and no quiet demand stands, or else it waits at the arbiter. -/
def CutterAsked (s t : State) : Prop :=
  (4 ≤ s.printer.reports.length → t.supply = s.supply ∧ t.printer.awaySeen = s.printer.awaySeen)
    ∧ (s.printer.reports.length < 4 → s.supply.prnGrant = none → s.supply.solRequest = none →
        ∀ (amount : Nat) (fits : Prop), amount = min s.mgmt.params.cutterCurrentMa s.supply.budget →
          (fits ↔ s.supply.low = false ∧ s.supply.quiet = false ∧ s.supply.activeMa + amount ≤ s.supply.budget) →
          (fits → t.printer.awaySeen = (s.printer.cutter == .away) ∧ t.supply = { s.supply with
            prnRequest := none, prnGrant := some ⟨.cutter, amount, s.clock.instant, 500000⟩ })
          ∧ (¬fits → t.printer.awaySeen = s.printer.awaySeen
            ∧ t.supply = { s.supply with prnRequest := some ⟨.cutter, amount, 500000⟩ }))

/-- The part with the allowance of a line formed again, before its last shot has been requested (R164): the budget in force less the amount
of the SOLENOID request or grant while the drawer is WAIT_GRANT or PULSING. -/
def allowanceFormed (s : State) : State :=
  let solenoid := match s.supply.solRequest, s.supply.solGrant with
    | some r, _ => r.amount
    | none, some g => g.amount
    | none, none => 0
  let allowance := s.supply.budget - (if s.drawer.state = .waitGrant ∨ s.drawer.state = .pulsing then solenoid else 0)
  { s with printer := { s.printer with
      line := s.printer.line.map fun l => if l.unfired = 0 then l else { l with allowance := allowance } } }

/-- The part with another budget in force (R129, R157, R158, R164, R166): a waiting SOLENOID, CUTTER or MOTOR request is formed anew, a STROBE
keeps its amount (log 39), and the allowance is formed again. -/
def budgetTaken (budget : Nat) (s : State) : State :=
  allowanceFormed { s with supply := { s.supply with
    budget := budget, pendingBudget := none
    solRequest := s.supply.solRequest.map fun _ =>
      ⟨.solenoid, min s.mgmt.params.drawerCurrentMa budget, s.mgmt.params.drawerPulseMs * 1000⟩
    prnRequest := s.supply.prnRequest.map fun r =>
      if r.kind = .motor then ⟨.motor, min s.mgmt.params.motorCurrentMa budget, 1500⟩
      else if r.kind = .cutter then ⟨.cutter, min s.mgmt.params.cutterCurrentMa budget, 500000⟩ else r } }

/-- A line that waits for its allowance is packed again, its next shot requested if every unit fits, and a grant test follows (R160, R166);
without such a line the grant test alone is made. -/
def Repacked (w x : State) : Prop :=
  (w.printer.line = none ∨ w.supply.prnRequest.isSome = true ∨ w.supply.prnGrant.isSome = true
      ∨ (∃ l, w.printer.line = some l ∧ l.stepping = true) → exec .grant w = .next x)
    ∧ ∀ l time, w.printer.line = some l → l.stepping = false → l.unfired ≠ 0 → w.supply.prnRequest = none →
        w.supply.prnGrant = none → StrobeTimeIs w l time →
        (shots l.allowance l.iDot l.unfired = none → exec .grant w = .next x)
        ∧ ∀ shot later, shots l.allowance l.iDot l.unfired = some (shot :: later) →
            exec .grant { w with
              printer := { w.printer with line := some { l with
                unfired := l.unfired &&& ~~~shot, shot := some shot, strobe := some time } }
              supply := { w.supply with prnRequest := some ⟨.strobe, dotsCurrent l.iDot shot, time⟩ } } = .next x

/-- The part with its printer grant ended and no printer request (R3, R129, R157, R161): a pending budget is in force once no other grant
is active, a waiting solenoid is then formed again for a budget that changes, and quiet demand that waited is raised. -/
def printerReleased (s : State) : State :=
  let budget := if s.supply.solGrant = none then s.supply.pendingBudget.getD s.supply.budget else s.supply.budget
  { s with
    scale := { s.scale with disturbed := s.scale.disturbed || s.clock.inWindow }
    supply := { s.supply with
      budget := budget, prnGrant := none
      pendingBudget := if s.supply.solGrant = none then none else s.supply.pendingBudget
      solRequest := if budget = s.supply.budget then s.supply.solRequest else s.supply.solRequest.map fun _ =>
        ⟨.solenoid, min s.mgmt.params.drawerCurrentMa budget, s.mgmt.params.drawerPulseMs * 1000⟩
      quiet := if s.scale.queue = [] then s.supply.quiet else true } }

/-- The Print engine takes up its next work from a state, as LINE_BEGIN does there, and a grant test follows (R146, R152, R160); what is
sent meanwhile is said apart. -/
def GoesOn (w t : State) : Prop :=
  ∃ v u, exec .lineBegin w = .next v ∧ exec .grant v = .next u ∧ t = { u with port := t.port }

/-! ## Token numbers -/

/-- The first number not in use that is tried from the token number counter on, after 65,535 from 1 (R43). -/
def FirstUnused (s : State) (n : Nat) : Prop :=
  n ∉ numbersInUse s
    ∧ ∃ k, n = (s.sales.nextToken - 1 + k) % 65535 + 1
        ∧ ∀ j, j < k → (s.sales.nextToken - 1 + j) % 65535 + 1 ∈ numbersInUse s

/-! ## The drawer -/

/-- The drawer asks for the solenoid in WAIT_GRANT (R129, R130, R160), with the lesser of drawer_current_ma and the budget in force: granted
at once it is PULSING until drawer_pulse_ms from now, and otherwise the request waits. DRAWER_STATE shows it. With no line in production
and no printer request, nothing else of the supply or the printer changes. -/
def Asked (s t : State) : Prop :=
  ∃ amount ms : Nat, amount = min s.mgmt.params.drawerCurrentMa s.supply.budget ∧ ms = s.mgmt.params.drawerPulseMs
    ∧ (s.supply.low = false ∧ s.supply.activeMa + amount ≤ s.supply.budget →
        t.drawer.state = .pulsing ∧ t.drawer.openedMark = false ∧ t.drawer.pulseEnd = s.clock.laneTime + BitVec.ofNat 32 ms
        ∧ t.supply.solRequest = none ∧ t.supply.solGrant = some ⟨.solenoid, amount, s.clock.instant, ms * 1000⟩)
    ∧ (s.supply.low = true ∨ s.supply.budget < s.supply.activeMa + amount →
        t.drawer.state = .waitGrant ∧ t.drawer.openedMark = s.drawer.openedMark ∧ t.drawer.pulseEnd = s.drawer.pulseEnd
        ∧ t.supply.solRequest = some ⟨.solenoid, amount, ms * 1000⟩ ∧ t.supply.solGrant = s.supply.solGrant)
    ∧ (s.printer.line = none → s.supply.prnRequest = none → t.printer = s.printer
        ∧ t.supply = { s.supply with solRequest := t.supply.solRequest, solGrant := t.supply.solGrant })
    ∧ ∃ q, t.port.shows (.drawerState q) ∧ q.state = t.drawer.state ∧ q.permit = t.drawer.permit ∧ q.attempt = t.drawer.attempt

/-- The drawer becomes OPEN (R132): the open time is now, the OPENED report carries the permit served and the attempt, the opening is
counted, and DRAWER_OPENED is raised. -/
def Opened (s t : State) (noPulse : Bool) : Prop :=
  t.drawer = { s.drawer with
      state := .opened, openTime := s.clock.laneTime, attempt := none, openedMark := false, reports := t.drawer.reports }
    ∧ t.drawerTrail = s.drawerTrail ++ [⟨.opened, s.clock.laneTime, servedSale s.drawer.permit, servedPosition s.drawer.permit,
        s.drawer.attempt, false, noPulse⟩]
    ∧ ∀ u, u = raiseEvent .drawerOpened s →
        t.mgmt = { u.mgmt with counters := { u.mgmt.counters with drawerOpens := satInc s.mgmt.counters.drawerOpens } }
        ∧ t.swipe = u.swipe ∧ t.scan = u.scan

/-! ## Table entries -/

/-- What one entry of a table reads as from its characters (13.5); none when a field is outside its values. -/
def readAny (table : Nat) (bytes : List Byte) : Option AnyEntry :=
  match table with
  | 1 => (readItem bytes).map .item
  | 2 => (readTare bytes).map .tare
  | 3 => (readCard bytes).map .card
  | 4 => (readMask bytes).map .mask
  | 5 => (readGlyph bytes).map .glyph
  | 6 => (readStrobe bytes).map .strobe
  | _ => (readReaction bytes).map .reaction

/-- The number of the indices of a table that hold an entry (R185). -/
def heldIndices (m : Mgmt) (table : Nat) : Nat := ((List.range 64).filter fun i => (entryAt m table i).isSome).length

/-- The entry at an index is the first, in index order, that fails a check made against the entries at lower indices (R186). -/
def FirstFailing {E : Type} (passes : List (Nat × E) → E → Prop) (entries : List (Nat × E)) (i : Nat) : Prop :=
  ∃ before e rest, entries = before ++ (i, e) :: rest ∧ ¬passes before e
    ∧ ∀ l x r, before = l ++ x :: r → passes l x.2

/-! ## Characters of the Lane Link -/

/-- The characters of a frame, each with its mark bit: the header of class COMMAND for the node, then the data characters (R178). -/
def wire (f : Frame) : List (Bool × Byte) := (true, 0#5 ++ f.node) :: (frameChars f).map fun b => (false, b)

/-- The part takes characters without framing errors, one row each. -/
def receive : List (Bool × Byte) → State → Host.Outcome State Fault Refusal
  | [], s => .next s
  | c :: rest, s =>
    match exec (.linkCharacterReceived c.1 c.2 false) s with
    | .next t => receive rest t
    | .fault f => .fault f
    | .refused r => .refused r

/-- The transmitter is sending, or has nothing to send. -/
abbrev Settled (p : Port) : Prop := p.tx.isSome = true ∨ (p.responses = [] ∧ p.reports = [])

/-! ## What a reset leaves -/

/-- The port after a power-on or a FULL reset, before its reports are placed: 19,200 bit/s (R176), an empty receiver, no pause, empty queues and
slots, the rotation mark at candidate 10 (R182) and counters of 0 (R188, R189). -/
def portAtReset : Port where
  rate := 1
  pendingRate := none
  assembly := none
  waiting := []
  ignoring := false
  pause := false
  responses := []
  reports := []
  liveSlot := none
  scaleSlot := none
  drawerSlot := none
  printerSlot := none
  mark := 10
  tx := none
  counters := ⟨0, 0, 0, 0, 0, 0, 0, 0⟩

/-- The Scanner intake after a reset: nothing in its buffers and no hold reason (R76). -/
def scanAtReset : Scan where
  chars := []
  count := 0
  fault := none
  finished := none
  slot := none
  holdHost := false
  holdReaction := false
  holdQueue := false

/-- The Swipe decoder after a reset: WAITING from now, empty buffers and no hold reason (R94); its swipe number counter is as given. -/
def swipeAtReset (now : MicroTime) (counter : Nat) : Swipe where
  capture := .waiting
  lastReversal := now
  intervals := []
  overflow := false
  counter := counter
  decodeBuffer := none
  reportBuffer := none
  holdHost := false
  holdReaction := false

/-! ## Conditions that every step keeps -/

/-- The queues of the link (R180, R182, R183): at most 4 responses and 24 reports; of each STATE kind at most one report in the queue, and
none while its slot holds one. -/
def LinkInv (s : State) : Prop :=
  s.port.responses.length ≤ 4 ∧ s.port.reports.length ≤ 24
    ∧ (∀ k : StateKind, s.port.reports.countP (fun r => r.stateKind == some k) ≤ 1)
    ∧ (s.port.liveSlot.isSome = true → s.port.queues .live = false)
    ∧ (s.port.scaleSlot.isSome = true → s.port.queues .scaleState = false)
    ∧ (s.port.drawerSlot.isSome = true → s.port.queues .drawerState = false)
    ∧ (s.port.printerSlot.isSome = true → s.port.queues .printerState = false)

/-- The transmitter is sending unless nothing is to be sent (R181), and a report waits for a place only behind a full queue (R182): 24 reports,
or 23 where an idle transmitter has taken the first of more than 24 that one step formed. -/
def AdmissionInv (s : State) : Prop := Settled s.port ∧ (nothingWaits s = true ∨ 23 ≤ s.port.reports.length)

/-- The arbiter (R160, R161): the active grants together draw at most the budget in force, and while quiet demand is raised a printer
grant lies between two conversion windows. -/
def SupplyInv (s : State) : Prop :=
  s.supply.activeMa ≤ s.supply.budget
    ∧ (s.supply.quiet = true → ∀ g, s.supply.prnGrant = some g → g.start % 8000 + g.duration ≤ 6000)

/-- The entries of a table stand at rising indices, within the indices of the table (R185). -/
abbrev TableRises {E : Type} (number : Nat) (t : Table E) : Prop :=
  (t.entries.map Prod.fst).Pairwise (· < ·) ∧ ∀ p ∈ t.entries, lowestIndex number ≤ p.1 ∧ p.1 ≤ highestIndex number

/-- Each of the seven tables holds at most one entry at an index, and at its own indices alone (R185). -/
abbrev TableInv (s : State) : Prop :=
  TableRises 1 s.mgmt.items ∧ TableRises 2 s.mgmt.tares ∧ TableRises 3 s.mgmt.cards ∧ TableRises 4 s.mgmt.masks
    ∧ TableRises 5 s.mgmt.glyphs ∧ TableRises 6 s.mgmt.strobes ∧ TableRises 7 s.mgmt.reactions

/-- The sales in the slots. -/
def Sales.all (b : Sales) : List Sale := b.slot0.toList ++ b.slot1.toList

/-- The tokens of both sales. -/
def Sales.tokens (b : Sales) : List Token := b.all.flatMap Sale.tokens

/-- The figures of every token (R56): the net weight is the gross less the tare, and at least 1 g. -/
def TokenInv (s : State) : Prop := ∀ t ∈ s.sales.tokens, t.figures.n = t.figures.g - t.figures.t ∧ 1 ≤ t.figures.n

/-- At most one sale is OPEN or TENDERING (R108). -/
def CurrentInv (s : State) : Prop := (s.sales.all.filter Sale.isCurrent).length ≤ 1

end Sys2Proof.Machine
end

