-- ==== Sys2Proof/Certificates/Slice0/Obligations.lean ====
section
/-! DEFINITION. The statements about the part, chapter by chapter of the spec. -/

open Sys2Proof Sys2Proof.Machine

/-! ## Steps and commands -/

/-- The step (the model's queue of commands, log 1): the command at the front of the queue is performed on the state that keeps the
queue's rest. -/
def Obligations.StepPerformsTheFrontCommand : Prop :=
  ∀ (c : Instr) (rest : List Instr) (s : State), step { s with pending := c :: rest } = exec c { s with pending := rest }

/-- The step on an empty queue (the model's choice, log 2): while no timer is due, one microsecond of lane time and of the swipe clock
passes, a trigger instant opens with its sample still to come, and nothing else changes but the port of an idle transmitter and two
records of the model's own: a window that opens is undisturbed (log 36), and no head is passed over any longer (log 52).

Without supply (log 10, the model's choice) no command but POWER_ON and POWER_LOSS changes anything, and no time passes.

Every command answers a next state in every state: no command stops the part (R180: a command that cannot be performed is refused in
its response).

No command takes another out of the queue or puts one in: what waits is the environment's alone (the model's queue, log 1, log 35),
and so one step takes exactly one command. -/
def Obligations.IdleTimeAndSupply : Prop :=
 (∀ s : State, s.pending = [] → s.powered = true → s.clock.micro < 1000 → (∀ t ∈ timers, t.1 s = false) →
    ∃ t, step s = .next t ∧ PortStands s t
      ∧ t = { s with clock := t.clock, port := t.port, scale := { s.scale with
          disturbed := t.scale.disturbed, passedOver := none } }
      ∧ t.clock.instant = (s.clock.instant + 1) % circle ∧ t.clock.micro < 1000
      ∧ t.clock.swipeClock = s.clock.swipeClock + 1
      ∧ (t.clock.sampled = true ↔ s.clock.sampled = true ∧ t.clock.instant % 8000 ≠ 0)
      ∧ (t.scale.disturbed = true ↔ s.scale.disturbed = true ∧ t.clock.instant % 8000 ≠ 1)) ∧
 (∀ s : State, s.powered = false →
    (∀ c : Instr, c ≠ .powerLoss → (∀ levels volts temp, c ≠ .powerOn levels volts temp) → exec c s = .next s)
    ∧ (s.pending = [] → step s = .next s)) ∧
 (∀ (c : Instr) (s : State), ∃ t, exec c s = .next t) ∧
 ((∀ (c : Instr) (s t : State), exec c s = .next t → t.pending = s.pending)
  ∧ ∀ s t : State, step s = .next t → t.pending = s.pending.tail)

/-! ## The Lane Link (12_the_lane_link_and_management.md) -/

/-- Frames and commands (R180, 13.2): the frame of every well-formed host command reads back as that command; a frame that reads as a
command is that command's frame, and the command is well-formed if the payload fits; and a frame reads as no command exactly when its
node and code name none. -/
def Obligations.FramesSpellCommands : Prop :=
  (∀ i : Instr, i.wellFormed = true → i.isHostCommand = true → (∀ tag node code payload, i ≠ .unknownCommand tag node code payload) →
    decodeFrame (encodeFrame i) = .command i)
  ∧ (∀ (f : Frame) (i : Instr), decodeFrame f = .command i →
      encodeFrame i = f ∧ i.isHostCommand = true ∧ (f.payload.length ≤ 240 → i.wellFormed = true))
  ∧ ∀ f : Frame, decodeFrame f = .unknown ↔ namesCommand f.node f.code = false

/-- A frame of the link is its command (R178, R179, R180): the characters of a well-formed command's frame, one row each, leave the part
as the command's own row does, whether it is performed, waits in a buffer, is discarded unanswered or is lost to full buffers. The
transmitter is sending or has nothing to send when the frame begins. -/
def Obligations.CharactersOfAFramePerformItsCommand : Prop :=
  ∀ (i : Instr) (s : State), i.wellFormed = true → i.isHostCommand = true → s.powered = true → Settled s.port →
    receive (wire (encodeFrame i)) s = exec i s

/-- A frame that is not performed changes the port alone (R179, R180): with 4 responses queued it is counted unanswered and discarded;
while the dispatch pause stands it waits in its buffer; with both buffers full it is lost and counted OVERRUN, and its characters are
ignored. A frame in assembly is cut by its header and counted TRUNCATED in each case.

A frame whose node or code names no command is answered UNKNOWN, and nothing else changes (R180, first test).

A payload of a length that the command does not take is answered BAD_ARG, and nothing else changes (R180): the last character of such
a frame completes it. -/
def Obligations.FramesThatAreNotPerformedAreAnsweredOrCounted : Prop :=
 (∀ (i : Instr) (s : State), i.isHostCommand = true → s.powered = true →
    (s.port.waiting.length < 2 → s.port.pause = false → 4 ≤ s.port.responses.length →
      Runs i s fun t => t.port.answers = s.port.answers ∧ NoReport s t
        ∧ t = { s with port := { s.port with
            assembly := none, ignoring := false, responses := t.port.responses, reports := t.port.reports, tx := t.port.tx,
            counters := { countedFrame s.port with unanswered := satInc s.port.counters.unanswered } } })
    ∧ (s.port.waiting.length < 2 → s.port.pause = true →
      Runs i s fun t => t.port.answers = s.port.answers ∧ NoReport s t
        ∧ t = { s with port := { s.port with
            assembly := none, ignoring := false, responses := t.port.responses, reports := t.port.reports, tx := t.port.tx,
            counters := countedFrame s.port, waiting := s.port.waiting ++ [encodeFrame i] } })
    ∧ (2 ≤ s.port.waiting.length →
      Runs i s fun t => t.port.answers = s.port.answers ∧ NoReport s t
        ∧ t = { s with port := { s.port with
            assembly := none, ignoring := true, responses := t.port.responses, reports := t.port.reports, tx := t.port.tx,
            counters := { countedFrame s.port with
              framesOk := s.port.counters.framesOk, overrun := satInc s.port.counters.overrun } } })) ∧
 (∀ (tag code : Byte) (node : BitVec 3) (payload : List Byte) (s : State), Ready s → namesCommand node code = false →
    OnlyAnswers (.unknownCommand tag node code payload) s .unknown .empty) ∧
 (∀ (f : Frame) (s : State), f.payload.length ≤ 240 → decodeFrame f = .badLength → Ready s → Settled s.port →
    ∃ t, receive (wire f) s = .next t ∧ LinkFrame s t ∧ NoReport s t ∧ t = { s with port := t.port }
      ∧ t.port.answers = s.port.answers ++ [⟨f.node, f.code, f.tag, .badArg, .empty, .nothing⟩])

/-- One character of the link (R178), case by case, with the counter of each: a stop bit that reads space, a header of each class, a
length above 240, a CRC that does not match, a character of a frame that goes on, and a character outside a frame, which counts stray
unless it is being ignored (for a framing error there, log 13 is the model's choice). -/
def Obligations.EachCharacterHasItsCase : Prop :=
  ∀ (mark : Bool) (data : Byte) (s : State), s.powered = true →
    (∀ a, s.port.assembly = some a →
      Runs (.linkCharacterReceived mark data true) s fun t =>
        t = { s with port := { s.port with
          assembly := none, ignoring := true,
          counters := { s.port.counters with line := satInc s.port.counters.line } }.startFrame })
    ∧ (s.port.assembly = none → mark = false →
      Runs (.linkCharacterReceived mark data true) s fun t => t = { s with port := { s.port with
        counters := { s.port.counters with
          stray := if s.port.ignoring then s.port.counters.stray else satInc s.port.counters.stray } }.startFrame })
    ∧ (data.toNat < 64 → s.port.waiting.length < 2 →
      Runs (.linkCharacterReceived true data false) s fun t =>
        t = { s with port := { s.port with
              assembly := some ⟨data.extractLsb' 0 3, []⟩, ignoring := false,
              counters := { countedFrame s.port with framesOk := s.port.counters.framesOk } }.startFrame })
    ∧ (64 ≤ data.toNat →
      Runs (.linkCharacterReceived true data false) s fun t =>
        t = { s with port := { s.port with
              assembly := none, ignoring := false,
              counters := { countedFrame s.port with framesOk := s.port.counters.framesOk } }.startFrame })
    ∧ (s.port.assembly = none →
      Runs (.linkCharacterReceived false data false) s fun t => t = { s with port := { s.port with
        counters := { s.port.counters with
          stray := if s.port.ignoring then s.port.counters.stray else satInc s.port.counters.stray } }.startFrame })
    ∧ (∀ node, s.port.assembly = some ⟨node, []⟩ → 240 < data.toNat →
      Runs (.linkCharacterReceived false data false) s fun t =>
        t = { s with port := { s.port with
              assembly := none, ignoring := true,
              counters := { s.port.counters with length := satInc s.port.counters.length } }.startFrame })
    ∧ (∀ node, s.port.assembly = some ⟨node, []⟩ → data.toNat ≤ 240 →
      Runs (.linkCharacterReceived false data false) s fun t =>
        t = { s with port := { s.port with assembly := some ⟨node, [data]⟩ }.startFrame })
    ∧ ∀ node (n : Byte) (chars : List Byte), s.port.assembly = some ⟨node, n :: chars⟩ → n.toNat ≤ 240 →
        (chars.length + 2 ≠ n.toNat + 5 →
          Runs (.linkCharacterReceived false data false) s fun t =>
            t = { s with port := { s.port with assembly := some ⟨node, n :: chars ++ [data]⟩ }.startFrame })
        ∧ (chars.length + 2 = n.toNat + 5 →
          be16 (crc16 (n :: chars.take (n.toNat + 2))) ≠ (chars ++ [data]).drop (n.toNat + 2) →
          Runs (.linkCharacterReceived false data false) s fun t =>
            t = { s with port := { s.port with
              assembly := none, ignoring := false,
              counters := { s.port.counters with crc := satInc s.port.counters.crc } }.startFrame })

/-- The end of a transmission (R181, R24): the oldest response goes next, and with none queued the report at the head of the queue; a
SCALE_STATE report that has left the part takes its pending flags with it (for a flag set again meanwhile, log 28). The place that a
report leaves is given away as REPORT_ADMISSION gives it (R182); while no source holds a report that waits, it stays free.

A rate change (R177): at the end of the response to Set Link Rate the pending rate takes effect, the dispatch pause clears, and a
frame in assembly is discarded and counted LINE unless the rate is the one that stands (for the characters that then follow, log 14). A
frame that waited, whatever it is, is dispatched and its response goes next (R179, R180); what its dispatch performs is what its command
performs when it arrives. Of two frames that waited, here of Hold Scanner, both are performed and answered in their order. -/
def Obligations.TransmissionsEndInTheirOrder : Prop :=
 (∀ (levels : InputLevels) (s : State) (x : TxFrame), s.powered = true → s.port.tx = some x →
    (∀ r, x = .response r → r.after = .nothing) →
    ∀ b : Scale, b = (match x with
        | .report (.scaleState q) => { s.scale with flags := s.scale.flags.less q.flags }
        | _ => s.scale) →
      (∀ r rest, s.port.responses = r :: rest →
        Runs (.frameTransmitEnd levels) s fun t =>
          t = { s with scale := b, port := { s.port with tx := some (.response r), responses := rest } })
      ∧ (∀ q rest, s.port.responses = [] → s.port.reports = q :: rest → nothingWaits s = true →
        Runs (.frameTransmitEnd levels) s fun t =>
          t = { s with scale := b, port := { s.port with tx := some (.report q), reports := rest } })
      ∧ (∀ q rest, s.port.responses = [] → s.port.reports = q :: rest →
        exec (.frameTransmitEnd levels) s
          = exec .reportAdmission { s with scale := b, port := { s.port with tx := some (.report q), reports := rest } })
      ∧ (s.port.responses = [] → s.port.reports = [] →
        Runs (.frameTransmitEnd levels) s fun t => t = { s with scale := b, port := { s.port with tx := none } })) ∧
 (∀ (levels : InputLevels) (s : State) (r : Response) (rate : Nat), s.powered = true → s.port.tx = some (.response r) →
    r.after = .rateChange → s.port.pendingRate = some rate → s.port.responses = [] → s.port.reports = [] →
    ∀ p : Port, p = { s.port with
        rate := rate, pendingRate := none, pause := false, tx := none, waiting := [],
        assembly := if rate = s.port.rate then s.port.assembly else none,
        ignoring := if s.port.assembly.isSome = true ∧ rate ≠ s.port.rate then true else s.port.ignoring,
        counters := { s.port.counters with
          line := if s.port.assembly.isSome = true ∧ rate ≠ s.port.rate then satInc s.port.counters.line
            else s.port.counters.line } } →
      (s.port.waiting = [] → Runs (.frameTransmitEnd levels) s fun t => t = { s with port := p })
      ∧ (∀ (f : Frame) (y : Reply) (u : State), s.port.waiting = [f] → frameCommand f { s with port := p } = (y, u) →
          Runs (.frameTransmitEnd levels) s fun t =>
            t = { u with port := { u.port with
              tx := some (.response ⟨f.node, f.code, f.tag, y.status, y.result, y.after⟩) } })
      ∧ ∀ a b : Byte, s.port.waiting = [encodeFrame (.holdScanner a), encodeFrame (.holdScanner b)] →
          Runs (.frameTransmitEnd levels) s fun t =>
            t = { s with
              scan := { s.scan with holdHost := true },
              port := { p with
                tx := some (.response (responseTo (.holdScanner a) .ok .empty .nothing)),
                responses := [responseTo (.holdScanner b) .ok .empty .nothing] } }) ∧
 (∀ (i : Instr) (s u : State) (y : Reply), i.wellFormed = true → i.isHostCommand = true → Ready s →
    frameCommand (encodeFrame i) { s with port := { s.port with
      assembly := none, ignoring := false, counters := countedFrame s.port } } = (y, u) →
    exec i s = .next { u with port := ({ u.port with
      responses := u.port.responses ++ [responseTo i y.status y.result y.after] } : Port).startFrame })

/-- A free place in the report queue (R182): the first candidate after the rotation mark that holds a report gives its oldest, the mark
moves to it, and no formed report is lost or overtaken by one of its own source; with no candidate, or no free place, nothing changes.
The transmitter is sending, and no source has work that waited for the place. Whatever work waited, a change of the Print engine's state
or cause by an admission is shown (R155).

The reports that a row forms while a frame is in transmission are placed as R182 and R183 say, whichever row it is but for those that end
a frame, admit a report or reset the part: with a place free and nothing waiting a report joins the end of the queue at once, and
otherwise an EVENT report stands at the end of its source's list and the queue's reports keep their places. A LIVE, SCALE_STATE,
DRAWER_STATE or PRINTER_STATE report that a row forms alone replaces the one that stands, in its position or its slot, or joins, or enters
its slot. -/
def Obligations.TheRotationAdmitsOneReport : Prop :=
  (∀ (c : Instr) (s t : State), exec c s = .next t → s.port.tx.isSome = true → c ≠ .reportAdmission → c ≠ .powerLoss →
    (∀ levels, c ≠ .frameTransmitEnd levels ∧ c ≠ .linkBreak levels) → (∀ levels volts temp, c ≠ .powerOn levels volts temp) →
    ReportsPlaced s t)
  ∧ (∀ s t : State, s.powered = true → s.port.tx.isSome = true → LinkInv s →
    (exec .liveReport s = .next t → t.scale.liveMemory ≠ s.scale.liveMemory →
      StatePlaced s .live (.live ⟨s.scale.load, s.scale.shown⟩) t.port)
    ∧ (exec .converterFaultExit s = .next t → t.scale.engine ≠ s.scale.engine →
      StatePlaced s .scaleState (.scaleState (scaleStateOf t)) t.port)
    ∧ (exec .grant s = .next t → t.drawer.state ≠ s.drawer.state →
      StatePlaced s .drawerState (.drawerState (drawerStateOf t)) t.port)
    ∧ ∀ level, level ≠ s.printer.nearEnd → exec (.printerSwitchChange (.nearEnd level)) s = .next t →
      StatePlaced s .printerState (.printerState (printerStateOf t)) t.port)
  ∧ (∀ s : State, s.powered = true → Runs .reportAdmission s fun t => PrinterShown s t)
  ∧ ∀ s : State, s.powered = true → s.port.tx.isSome = true →
    (24 ≤ s.port.reports.length → Runs .reportAdmission s fun t => t = s)
    ∧ (s.port.reports.length < 24 → nothingWaits s = true → Runs .reportAdmission s fun t => t = s)
    ∧ ∀ (i k : Nat) (r : Report) (s' : State), s.port.reports.length < 24 → i < 10 → k = (s.port.mark + i) % 10 + 1 →
        takeCandidate k s = some (r, s') → (∀ j < i, takeCandidate ((s.port.mark + j) % 10 + 1) s = none) →
        (k = 2 → s.scan.finished = none) → (k = 3 → s.swipe.decodeBuffer = none) → (k = 5 → s.drawer.deferred = false) →
        (k = 6 → printerFree s = false) →
        Runs .reportAdmission s fun t =>
          t = { s' with port := { s'.port with reports := s.port.reports ++ [r], mark := k } }
          ∧ t.weightTrail = s.weightTrail ∧ t.scanTrail = s.scanTrail ∧ t.cardTrail = s.cardTrail
          ∧ t.saleTrail = s.saleTrail ∧ t.drawerTrail = s.drawerTrail ∧ t.printerTrail = s.printerTrail

/-! ## The Management node (12.5 to 12.8) and the lane indicators (11) -/

/-- Identify and Get Status (R187, R29): each answers what stands and changes nothing; an invalid record answers zeros. That the
state-report slots occupied are one count is the model's choice (log 19).

Get Parameter, Read Entry and Read Counters (R184, R186, R188): each answers the value, the entry or the counters that stand, its own
frame counted first; a number, an index or a group outside its values is refused; nothing else changes. -/
def Obligations.QueriesOnlyRead : Prop :=
 (∀ (tag : Byte) (s : State), Ready s →
    (∀ c, s.store.copy = some c →
      OnlyAnswers (.identify tag) s .ok (.identity ⟨c.counter, c.restart, c.max, c.d1, c.d2, c.range1⟩))
    ∧ (s.store.copy = none → OnlyAnswers (.identify tag) s .ok (.identity ⟨0, false, 0, 0, 0, 0⟩))
    ∧ ∃ r : StatusReport, OnlyAnswers (.getStatus tag) s .ok (.status r)
        ∧ r.laneTime = s.clock.laneTime ∧ r.rate = s.port.rate ∧ r.responses = s.port.responses.length
        ∧ r.reports = s.port.reports.length
        ∧ r.slots = [s.port.liveSlot.isSome, s.port.scaleSlot.isSome, s.port.drawerSlot.isSome, s.port.printerSlot.isSome].count true
        ∧ r.tables.length = 7
        ∧ (∀ n, 1 ≤ n → n ≤ 7 → r.tables[n - 1]? = some (tableStatus s.mgmt n))
        ∧ (r.scanHost, r.scanReaction, r.scanQueue) = (s.scan.holdHost, s.scan.holdReaction, s.scan.holdQueue)
        ∧ (r.swipeHost, r.swipeReaction) = (s.swipe.holdHost, s.swipe.holdReaction)
        ∧ r.low = s.supply.low ∧ r.volts = s.supply.volts ∧ r.budget = s.supply.budget
        ∧ r.pendingBudget = s.supply.pendingBudget
        ∧ (∀ g, g ∈ r.grants ↔ s.supply.solGrant = some g ∨ s.supply.prnGrant = some g)
        ∧ (∀ q, q ∈ r.requests ↔ s.supply.solRequest = some q ∨ s.supply.prnRequest = some q)
        ∧ r.lampA = s.mgmt.lampA.setting ∧ r.lampB = s.mgmt.lampB.setting
        ∧ (s.mgmt.beeper = none → r.beepMs = 0)
        ∧ ∀ e, s.mgmt.beeper = some e → s.clock.laneTime.toNat < e.toNat → e.toNat < s.clock.laneTime.toNat + 2147483648 →
            r.beepMs = e.toNat - s.clock.laneTime.toNat) ∧
 (∀ (tag a b : Byte) (s : State), Ready s →
    (∀ v, s.mgmt.params.get? a.toNat = some v → OnlyAnswers (.getParameter tag a) s .ok (.parameter v))
    ∧ (a.toNat = 0 ∨ 13 < a.toNat → OnlyAnswers (.getParameter tag a) s .unknown .empty)
    ∧ (1 ≤ a.toNat → a.toNat ≤ 7 → lowestIndex a.toNat ≤ b.toNat → b.toNat ≤ highestIndex a.toNat →
        OnlyAnswers (.readEntry tag a b) s .ok (.entry (tableStatus s.mgmt a.toNat).state (entryAt s.mgmt a.toNat b.toNat)))
    ∧ (a.toNat = 0 ∨ 7 < a.toNat ∨ b.toNat < lowestIndex a.toNat ∨ highestIndex a.toNat < b.toNat →
        OnlyAnswers (.readEntry tag a b) s .badArg .empty)
    ∧ (a.toNat = 0 → OnlyAnswers (.readCounters tag a) s .ok (.counters (countedFrame s.port).values))
    ∧ (a.toNat = 1 → OnlyAnswers (.readCounters tag a) s .ok (.counters s.mgmt.counters.values))
    ∧ (1 < a.toNat → OnlyAnswers (.readCounters tag a) s .badArg .empty))

/-- Clear Counters (R188): the counters of the group, or of both, are 0 afterwards, its own frame's count with them; any other group is
refused, and nothing else changes.

Clear Table (R185, R59, R142, R175): a number that names no table is refused; the Tare Table and the Glyph Table are refused while a
request or a token uses them; otherwise the table is EMPTY, alone of the tables, and the clear of table 7 releases the REACTION holds. -/
def Obligations.ClearsEmptyWhatTheyName : Prop :=
 (∀ (tag group : Byte) (s : State), Ready s →
    (2 < group.toNat → OnlyAnswers (.clearCounters tag group) s .badArg .empty)
    ∧ (group.toNat ≤ 2 →
      Runs (.clearCounters tag group) s fun t =>
        t.port.answers = s.port.answers ++ [responseTo (.clearCounters tag group) .ok .empty .nothing] ∧ NoReport s t
        ∧ t = { s with
            mgmt := { s.mgmt with counters := if group.toNat = 0 then s.mgmt.counters else .zero }
            port := { s.port with
              assembly := none, ignoring := false, responses := t.port.responses, reports := t.port.reports, tx := t.port.tx
              counters := if group.toNat = 1 then countedFrame s.port else .zero } })) ∧
 (∀ (tag table : Byte) (s : State), Ready s →
    (table.toNat = 0 ∨ 7 < table.toNat → OnlyAnswers (.clearTable tag table) s .badArg .empty)
    ∧ ((table.toNat = 2 ∧ ∃ r ∈ s.scale.queue, r.tareClass ≠ 0) ∨
        (table.toNat = 5 ∧ ∃ k ∈ s.sales.tokens, k.state = .queued ∨ k.state = .printing) →
        OnlyAnswers (.clearTable tag table) s .busy .empty)
    ∧ (1 ≤ table.toNat → table.toNat ≤ 7 → (table.toNat = 2 → ∀ r ∈ s.scale.queue, r.tareClass = 0) →
        (table.toNat = 5 → ∀ k ∈ s.sales.tokens, k.state ≠ .queued ∧ k.state ≠ .printing) →
        Performs (.clearTable tag table) s .ok .empty fun t => NoReport s t
          ∧ tableStatus t.mgmt table.toNat = ⟨.empty, if table.toNat = 2 then 1 else 0, 0⟩
          ∧ (∀ i, entryAt t.mgmt table.toNat i = none)
          ∧ (∀ n, 1 ≤ n → n ≤ 7 → n ≠ table.toNat →
              tableStatus t.mgmt n = tableStatus s.mgmt n ∧ ∀ i, entryAt t.mgmt n i = entryAt s.mgmt n i)
          ∧ t = { s with
              port := t.port, scan := t.scan, swipe := t.swipe
              mgmt := { t.mgmt with
                params := s.mgmt.params, counters := s.mgmt.counters, lampA := s.mgmt.lampA, lampB := s.mgmt.lampB,
                beeper := s.mgmt.beeper } }
          ∧ (table.toNat ≠ 7 → t.scan = s.scan ∧ t.swipe = s.swipe)
          ∧ (table.toNat = 7 → t.scan = { s.scan with holdReaction := false }
              ∧ t.swipe = { s.swipe with
                  holdReaction := false
                  capture := if s.swipe.holdReaction = true ∧ s.swipe.holdHost = false then .waiting else s.swipe.capture
                  lastReversal := if s.swipe.holdReaction = true ∧ s.swipe.holdHost = false then s.clock.swipeClock
                    else s.swipe.lastReversal })))

/-- Set Parameter (R184): the range of each parameter, the answer with the stored value, and what the stored value changes at once. A
number that names no parameter is refused UNKNOWN; a value that stands already changes nothing; the other parameters stand. A waiting
SOLENOID request is formed again in its place (R129), and that no grant test follows is the model's choice (log 44). A budget that takes
effect at once (R157) has the waiting requests formed anew (R158, log 39) and a line that waits packed again (R164, R166); that a grant test
follows is the model's choice (log 44). -/
def Obligations.SetParameterStoresWithinTheRange : Prop :=
  ∀ (tag number : Byte) (value : BitVec 32) (s : State), Ready s →
    (number.toNat = 0 ∨ 13 < number.toNat → OnlyAnswers (.setParameter tag number value) s .unknown .empty)
    ∧ ∀ v, ((∃ lo hi, (number.toNat, lo, hi) ∈ ([(1, 1, 60), (2, 0, 1), (3, 0, 1), (4, 30, 250), (5, 200, 2500), (7, 0, 1), (8, 0, 1),
            (9, 1000, 4000), (10, 100, 1000), (11, 200, 1500), (12, 0, 255)] : List (Nat × Nat × Nat))
            ∧ v = max lo (min hi value.toNat))
          ∨ (number.toNat = 6 ∧ v = if value.toNat = 0 then 0 else max 5 (min 300 value.toNat))
          ∨ (number.toNat = 13 ∧ v = if value.toNat < 24000 then 9600 else 38400)) →
        Performs (.setParameter tag number value) s (if v = value.toNat then .ok else .okClamped) (.parameter v) fun t =>
          t.mgmt.params.get? number.toNat = some v
          ∧ (∀ m, m ≠ number.toNat → t.mgmt.params.get? m = s.mgmt.params.get? m)
          ∧ (s.mgmt.params.get? number.toNat = some v → NoReport s t ∧ t = { s with port := t.port })
          ∧ (number.toNat ∈ [4, 7, 8, 10, 11, 12] → NoReport s t
              ∧ t = { s with port := t.port, mgmt := { s.mgmt with params := t.mgmt.params } })
          ∧ (s.mgmt.params.get? number.toNat ≠ some v →
              (number.toNat = 2 → NoReport s t
                ∧ t = { s with port := t.port, mgmt := { s.mgmt with params := t.mgmt.params },
                               scale := { s.scale with zeroRun := if v = 0 then none else s.scale.zeroRun } })
              ∧ (number.toNat = 3 → NoReport s t
                ∧ t = { s with port := t.port, mgmt := { s.mgmt with params := t.mgmt.params },
                               scale := { s.scale with
                                 liveMemory := if v = 1 then none else s.scale.liveMemory
                                 liveWaits := s.scale.liveWaits || v == 1 } })
              ∧ (number.toNat = 5 → NoReport s t
                ∧ ∃ q, q = s.supply.solRequest.map (fun _ => ⟨.solenoid, min v s.supply.budget, s.mgmt.params.drawerPulseMs * 1000⟩)
                  ∧ t = { s with port := t.port, mgmt := { s.mgmt with params := t.mgmt.params },
                                 supply := { s.supply with solRequest := q } })
              ∧ (number.toNat = 9 → s.supply.solGrant.isSome = true ∨ s.supply.prnGrant.isSome = true → NoReport s t
                ∧ t = { s with port := t.port, mgmt := { s.mgmt with params := t.mgmt.params },
                               supply := { s.supply with pendingBudget := some v } })
              ∧ (number.toNat = 9 → s.supply.solGrant = none → s.supply.prnGrant = none →
                  t.supply.budget = v ∧ t.supply.pendingBudget = none
                  ∧ (v ≠ s.supply.budget → ∃ x, t = { x with port := t.port }
                    ∧ Repacked (budgetTaken v { s with mgmt := { s.mgmt with params := t.mgmt.params } }) x))
              ∧ (number.toNat = 13 → s.scan.count ≠ 0 → NoReport s t
                ∧ t = { s with port := t.port, scan := { s.scan with chars := [], count := 0, fault := none },
                               mgmt := { s.mgmt with
                                 params := t.mgmt.params
                                 counters := { s.mgmt.counters with discardLine := satInc s.mgmt.counters.discardLine } } })
              ∧ (number.toNat = 1 → (∀ r, s.scale.queue.head? = some r → ∀ h, r.headTime = some h →
                    (s.clock.laneTime - h).toNat < v * 1000) → NoReport s t
                ∧ t = { s with port := t.port, mgmt := { s.mgmt with params := t.mgmt.params } })
              ∧ (number.toNat = 1 → ∀ r rest h, s.scale.queue = r :: rest → r.headTime = some h →
                  v * 1000 ≤ (s.clock.laneTime - h).toNat →
                  (s.weightTrail ++ [weightReportOf s r .timeout none]) <+: t.weightTrail)
              ∧ (number.toNat = 6 → s.drawer.state = .opened → v ≠ 0 → v * 1000 ≤ (s.clock.laneTime - s.drawer.openTime).toNat →
                  t.drawer.state = .overdue))

/-- Load Entries (R185, 13.5), with its tests in their order: every entry of the frame is written at its index or none is; the table
becomes LOADING with its cursor behind the last entry, the answer carries the number of its indices that hold an entry (of
tables whose entries stand at rising indices, as every step keeps them), and nothing else changes. That a position counts the first entry as 1, and that a frame short of its count or beyond it is refused with the position of the first
entry missing or surplus, which follows the whole entries held or the count, is the model's choice (log 23).

The entries of the seven tables (13.5), as their characters, with the ranges that Load Entries asks of their fields (R66, R58, R97, R99,
R141, R167, R170). -/
def Obligations.LoadEntriesWritesEveryEntryOrNone : Prop :=
 (∀ (tag table start count : Byte) (bytes : List Byte) (s : State), Ready s →
    (table.toNat = 0 ∨ 7 < table.toNat → OnlyAnswers (.loadEntries tag table start count bytes) s .badArg .empty)
    ∧ ∀ (n first size : Nat) (old : TableStatus), n = table.toNat → 1 ≤ n → n ≤ 7 → old = tableStatus s.mgmt n → size = entryBytes n →
        first = (if start.toNat = 255 then old.cursor else start.toNat) →
        (old.state = .ready → OnlyAnswers (.loadEntries tag table start count bytes) s .state .empty)
        ∧ (old.state ≠ .ready →
            (count.toNat = 0 ∨ entriesPerLoad n < count.toNat →
              OnlyAnswers (.loadEntries tag table start count bytes) s .badArg .empty)
            ∧ (1 ≤ count.toNat → count.toNat ≤ entriesPerLoad n →
                (bytes.length ≠ count.toNat * size →
                  OnlyAnswers (.loadEntries tag table start count bytes) s .badArg
                    (.small (min (bytes.length / size) count.toNat + 1)))
                ∧ (bytes.length = count.toNat * size →
                    (∀ p, 1 ≤ p → p ≤ count.toNat →
                      (first + p - 1 < lowestIndex n ∨ highestIndex n < first + p - 1) →
                      (∀ q, 1 ≤ q → q < p → lowestIndex n ≤ first + q - 1 ∧ first + q - 1 ≤ highestIndex n) →
                      OnlyAnswers (.loadEntries tag table start count bytes) s .badArg (.small p))
                    ∧ (lowestIndex n ≤ first → first + count.toNat - 1 ≤ highestIndex n →
                        (∀ p, 1 ≤ p → p ≤ count.toNat →
                          readAny n ((bytes.drop ((p - 1) * size)).take size) = none →
                          (∀ q, 1 ≤ q → q < p → (readAny n ((bytes.drop ((q - 1) * size)).take size)).isSome = true) →
                          OnlyAnswers (.loadEntries tag table start count bytes) s .badArg (.small p))
                        ∧ ((∀ p, 1 ≤ p → p ≤ count.toNat →
                              (readAny n ((bytes.drop ((p - 1) * size)).take size)).isSome = true) →
                            ∃ loaded, Performs (.loadEntries tag table start count bytes) s .ok
                              (.loaded (first + count.toNat) loaded) fun t => NoReport s t
                                ∧ (TableInv s → loaded = heldIndices t.mgmt n)
                                ∧ tableStatus t.mgmt n = ⟨.loading, first + count.toNat, loaded⟩
                                ∧ (∀ i, entryAt t.mgmt n i =
                                    if first ≤ i ∧ i < first + count.toNat then
                                      readAny n ((bytes.drop ((i - first) * size)).take size)
                                    else entryAt s.mgmt n i)
                                ∧ (∀ m, 1 ≤ m → m ≤ 7 → m ≠ n →
                                    tableStatus t.mgmt m = tableStatus s.mgmt m ∧ ∀ i, entryAt t.mgmt m i = entryAt s.mgmt m i)
                                ∧ t = { s with
                                    port := t.port
                                    mgmt := { t.mgmt with
                                      params := s.mgmt.params, counters := s.mgmt.counters, lampA := s.mgmt.lampA,
                                      lampB := s.mgmt.lampB, beeper := s.mgmt.beeper } })))))) ∧
 (∀ (bytes : List Byte) (f : Nat → Nat), f = (fun k => (bytes.getD k 0).toNat) →
    (bytes.length = 19 →
      ((readAny 1 bytes).isSome = true ↔ 1 ≤ f 0 ∧ f 0 ≤ 12 ∧ (∀ k, 1 ≤ k → k ≤ f 0 → 48 ≤ f k ∧ f k ≤ 57) ∧ f 13 ∈ [0, 8, 12, 13]
        ∧ f 14 ≤ 3 ∧ f 15 ≤ 15 ∧ 1 ≤ f 16 ∧ f 16 ≤ 12 ∧ 1 ≤ f 17 ∧ f 17 ≤ 6 ∧ f 18 ≤ 1)
      ∧ ∀ x, readAny 1 bytes = some x → ∃ e, x = .item e ∧ e.lead = (bytes.drop 1).take (f 0) ∧ e.codeLength = f 13
        ∧ e.itemClass.code = f 14 ∧ e.tareClass = f 15 ∧ e.fieldStart = f 16 ∧ e.fieldLength = f 17 ∧ e.fieldKind.code = f 18)
    ∧ (bytes.length = 4 → ∃ v : Int, readAny 2 bytes = some (.tare v) ∧ -2147483648 ≤ v ∧ v < 2147483648
        ∧ v % 4294967296 = (f 0 * 16777216 + f 1 * 65536 + f 2 * 256 + f 3 : Nat))
    ∧ (bytes.length = 14 →
      ((readAny 3 bytes).isSome = true ↔ (∀ k, k < 12 → 48 ≤ f k ∧ f k ≤ 57) ∧ f 12 ≤ 3 ∧ f 13 ≤ 3)
      ∧ ∀ x, readAny 3 bytes = some x → ∃ e, x = .card e
        ∧ e.low = (f 0 - 48) * 100000 + (f 1 - 48) * 10000 + (f 2 - 48) * 1000 + (f 3 - 48) * 100 + (f 4 - 48) * 10 + (f 5 - 48)
        ∧ e.high = (f 6 - 48) * 100000 + (f 7 - 48) * 10000 + (f 8 - 48) * 1000 + (f 9 - 48) * 100 + (f 10 - 48) * 10 + (f 11 - 48)
        ∧ e.cardClass.code = f 12 ∧ e.profile = f 13)
    ∧ (bytes.length = 6 →
      ((readAny 4 bytes).isSome = true ↔ f 0 ≤ 8 ∧ f 1 ≤ 4 ∧ f 2 ≤ 1 ∧ f 3 ≤ 1 ∧ f 4 ≤ 1 ∧ f 5 ≤ 1)
      ∧ ∀ x, readAny 4 bytes = some x → x = .mask ⟨f 0, f 1, f 2 == 0, f 3 == 0, f 4 == 0, f 5 == 0⟩)
    ∧ (bytes.length = 36 → ∃ g, readAny 5 bytes = some (.glyph g) ∧ g.length = 24
        ∧ ∀ r c, r < 24 → c < 12 →
          (g.getD r 0).getMsbD c = (bytes.getD ((12 * r + c) / 8) 0).getMsbD ((12 * r + c) % 8))
    ∧ (bytes.length = 2 → readAny 6 bytes =
        if 100 ≤ f 0 * 256 + f 1 ∧ f 0 * 256 + f 1 ≤ 2000 then some (.strobe (f 0 * 256 + f 1)) else none)
    ∧ (bytes.length = 3 →
      ((readAny 7 bytes).isSome = true ↔ f 0 ≤ 17
        ∧ ((f 1 ≤ 1 ∧ f 2 ≤ 2) ∨ (f 1 = 2 ∧ 1 ≤ f 2 ∧ f 2 ≤ 20) ∨ (3 ≤ f 1 ∧ f 1 ≤ 6 ∧ f 2 = 0)))
      ∧ ∀ x, readAny 7 bytes = some x → ∃ e, x = .reaction e ∧ e.source.code = f 0 ∧ e.action.codes = (f 1, f 2)))

/-- Close Table (R186), with its tests in order: the count, then the table's own validation, whose failure is answered with the index it
names; a table that passes becomes READY with its entries, and nothing else changes.

The validations of the seven tables (R67, R58, R97, R99, R141, R167, R170): when each passes, and which index a failure names: that of
the first entry that fails, in index order; the first index that holds no entry; or index 0 for a Tare Table without a stored record. -/
def Obligations.CloseTableTestsTheTableAndMakesItReady : Prop :=
 (∀ (tag table expected : Byte) (s : State), Ready s →
    (table.toNat = 0 ∨ 7 < table.toNat → OnlyAnswers (.closeTable tag table expected) s .badArg .empty)
    ∧ ∀ old, 1 ≤ table.toNat → table.toNat ≤ 7 → old = tableStatus s.mgmt table.toNat →
        (old.state = .ready → OnlyAnswers (.closeTable tag table expected) s .state .empty)
        ∧ (old.state ≠ .ready →
            (old.loaded ≠ expected.toNat → OnlyAnswers (.closeTable tag table expected) s .mismatch (.small old.loaded))
            ∧ (old.loaded = expected.toNat →
                (∀ i, closeFailure table.toNat s = some i → OnlyAnswers (.closeTable tag table expected) s .badArg (.small i))
                ∧ (closeFailure table.toNat s = none → Performs (.closeTable tag table expected) s .ok .empty fun t => NoReport s t
                    ∧ tableStatus t.mgmt table.toNat = { old with state := .ready }
                    ∧ (∀ n i, entryAt t.mgmt n i = entryAt s.mgmt n i)
                    ∧ (∀ n, 1 ≤ n → n ≤ 7 → n ≠ table.toNat → tableStatus t.mgmt n = tableStatus s.mgmt n)
                    ∧ t = { s with
                        port := t.port
                        mgmt := { t.mgmt with
                          params := s.mgmt.params, counters := s.mgmt.counters, lampA := s.mgmt.lampA, lampB := s.mgmt.lampB,
                          beeper := s.mgmt.beeper } })))) ∧
 (∀ (s : State) (item : List (Nat × ItemEntry) → ItemEntry → Prop) (tare : CalRecord → Int → Prop)
    (react : List (Nat × ReactionEntry) → ReactionEntry → Prop),
    (item = fun before e => (e.codeLength ≠ 0 → e.lead.length < e.codeLength)
      ∧ (e.itemClass = .embedded → e.codeLength ≠ 0 ∧ e.fieldStart + e.fieldLength - 1 ≤ e.codeLength)
      ∧ ∀ p ∈ before, ¬(p.2.lead = e.lead ∧ p.2.codeLength = e.codeLength)) →
    (tare = fun c v => 0 ≤ v ∧ v ≤ (c.max : Int) ∧ (if c.d2 = 0 then (c.d1 : Int) else (Nat.lcm c.d1 c.d2 : Nat)) ∣ v) →
    (react = fun before e => ∀ p ∈ before, ¬(p.2.source = e.source ∧ p.2.action.codes.1 = e.action.codes.1)) →
    (closeFailure 1 s = none ↔ ∀ l x r, s.mgmt.items.entries = l ++ x :: r → item l x.2)
    ∧ (∀ i, closeFailure 1 s = some i ↔ FirstFailing item s.mgmt.items.entries i)
    ∧ (s.store.copy = none → closeFailure 2 s = some 0)
    ∧ (∀ c, s.store.copy = some c → (closeFailure 2 s = none ↔ ∀ p ∈ s.mgmt.tares.entries, tare c p.2)
      ∧ ∀ i, closeFailure 2 s = some i ↔ FirstFailing (fun _ v => tare c v) s.mgmt.tares.entries i)
    ∧ (closeFailure 3 s = none ↔ ∀ p ∈ s.mgmt.cards.entries, p.2.low ≤ p.2.high)
    ∧ (∀ i, closeFailure 3 s = some i ↔ FirstFailing (fun _ e => e.low ≤ e.high) s.mgmt.cards.entries i)
    ∧ (closeFailure 4 s = none ↔ ∀ p ∈ s.mgmt.masks.entries, p.2.keepFirst + p.2.keepLast ≤ 10)
    ∧ (∀ i, closeFailure 4 s = some i ↔ FirstFailing (fun _ e => e.keepFirst + e.keepLast ≤ 10) s.mgmt.masks.entries i)
    ∧ (closeFailure 5 s = none ↔ ∀ i, i ≤ 13 → (s.mgmt.glyphs.at? i).isSome = true)
    ∧ (∀ i, closeFailure 5 s = some i ↔ i ≤ 13 ∧ s.mgmt.glyphs.at? i = none ∧ ∀ j, j < i → (s.mgmt.glyphs.at? j).isSome = true)
    ∧ (closeFailure 6 s = none ↔ ∀ i, i ≤ 7 → (s.mgmt.strobes.at? i).isSome = true)
    ∧ (∀ i, closeFailure 6 s = some i ↔ i ≤ 7 ∧ s.mgmt.strobes.at? i = none ∧ ∀ j, j < i → (s.mgmt.strobes.at? j).isSome = true)
    ∧ (closeFailure 7 s = none ↔ ∀ l x r, s.mgmt.reactions.entries = l ++ x :: r → react l x.2)
    ∧ (∀ i, closeFailure 7 s = some i ↔ FirstFailing react s.mgmt.reactions.entries i))

/-- Hold Scanner and Release Scanner (R75): each is accepted with OK and sets or clears the hold reason HOST alone; clear-to-send stands
exactly while no reason does, so a release leaves the scanner held while REACTION or QUEUE stands; the two commands and the two actions
of the Reaction unit, and the emptying of the slot, act on different reasons, so each pair gives the same in either order; and Get Status
carries the reasons. -/
def Obligations.HoldAndReleaseScannerActOnHostAlone : Prop :=
  ∀ (tag : Byte) (s : State), Ready s →
    (Performs (.holdScanner tag) s .ok .empty fun t => NoReport s t
      ∧ t = { s with port := t.port, scan := { s.scan with holdHost := true } } ∧ t.scan.clearToSend = false)
    ∧ (Performs (.releaseScanner tag) s .ok .empty fun t => NoReport s t
      ∧ t = { s with port := t.port, scan := { s.scan with holdHost := false } }
      ∧ (t.scan.clearToSend = true ↔ s.scan.holdReaction = false ∧ s.scan.holdQueue = false))
    ∧ (∀ f ∈ [perform .holdScanner, perform .releaseScanner,
          fun x : State => { x with scan := { x.scan with slot := none, holdQueue := false } }],
        ∀ u v t, exec (.holdScanner tag) s = .next u → exec (.releaseScanner tag) s = .next v →
          (exec (.holdScanner tag) (f s) = .next t → t = f u) ∧ (exec (.releaseScanner tag) (f s) = .next t → t = f v))
    ∧ ∃ r, OnlyAnswers (.getStatus tag) s .ok (.status r)
        ∧ (r.scanHost, r.scanReaction, r.scanQueue) = (s.scan.holdHost, s.scan.holdReaction, s.scan.holdQueue)

/-- Hold Swipe and Release Swipe (R82, R81): each is accepted with OK and sets or clears the hold reason HOST alone; the first reason moves
the decoder to HELD and abandons a swipe in progress, counted lost; the last reason's clearing moves it to WAITING with its quiet
restarted; nothing else changes. A Hold Swipe and the Reaction unit's release give the same in either order, a swipe that has ended before the
hold is kept, and Get Status carries the reasons. -/
def Obligations.HoldAndReleaseSwipeActOnHostAlone : Prop :=
  ∀ (tag : Byte) (s : State), Ready s →
    (Performs (.holdSwipe tag) s .ok .empty fun t => NoReport s t
      ∧ t = { s with
          port := t.port
          swipe := { s.swipe with
            holdHost := true
            capture := if s.swipe.holdHost = true ∨ s.swipe.holdReaction = true then s.swipe.capture else .held }
          mgmt := { s.mgmt with counters := { s.mgmt.counters with
            swipesLost := if s.swipe.capture = .capturing ∧ s.swipe.holdHost = false ∧ s.swipe.holdReaction = false then
              satInc s.mgmt.counters.swipesLost else s.mgmt.counters.swipesLost } } })
    ∧ (Performs (.releaseSwipe tag) s .ok .empty fun t => NoReport s t
      ∧ t = { s with
          port := t.port
          swipe := { s.swipe with
            holdHost := false
            capture := if s.swipe.holdHost = true ∧ s.swipe.holdReaction = false then .waiting else s.swipe.capture
            lastReversal := if s.swipe.holdHost = true ∧ s.swipe.holdReaction = false then s.clock.swipeClock
              else s.swipe.lastReversal } })
    ∧ (∀ u, exec (.holdSwipe tag) s = .next u →
        (perform .releaseSwipe u).swipe.holdHost = true ∧ (perform .releaseSwipe u).swipe.holdReaction = false
        ∧ ((s.swipe.isHeld = true → s.swipe.capture = .held) → (perform .releaseSwipe u).swipe.capture = .held))
    ∧ (∀ u, exec (.holdSwipe tag) (perform .releaseSwipe s) = .next u →
        u.swipe.holdHost = true ∧ u.swipe.holdReaction = false
        ∧ ((s.swipe.isHeld = true → s.swipe.capture = .held) → u.swipe.capture = .held))
    ∧ (∀ u, exec .swipeEnd s = .next u → Ready u → u.swipe.isHeld = false → u.swipe.capture ≠ .capturing →
        Performs (.holdSwipe tag) u .ok .empty fun t => t.swipe.capture = .held ∧ t.mgmt = u.mgmt
          ∧ t.swipe.decodeBuffer = u.swipe.decodeBuffer ∧ t.cardTrail = u.cardTrail)
    ∧ ∃ r, OnlyAnswers (.getStatus tag) s .ok (.status r)
        ∧ (r.swipeHost, r.swipeReaction) = (s.swipe.holdHost, s.swipe.holdReaction)

/-- Set Indicator (R172, R173, R174): a target or a value outside its own is refused; a lamp takes its setting, and one that it has already
changes nothing; the beeper sounds until n × 50 ms from now, or falls silent for n = 0.

The end of a beep and the halves of a blink (R172, R173): at its end time the beeper falls silent, and not before; a lamp in BLINK
changes half 500 ms of lane time after the half began, counted in whole ms as the model chooses (log 46), and no other lamp changes. -/
def Obligations.IndicatorsAreSetAndRun : Prop :=
 (∀ (tag target value : Byte) (s : State), Ready s →
    (2 < target.toNat ∨ (target.toNat < 2 ∧ 2 < value.toNat) ∨ (target.toNat = 2 ∧ 20 < value.toNat) →
      OnlyAnswers (.setIndicator tag target value) s .badArg .empty)
    ∧ (∀ v, (value.toNat, v) ∈ [(0, LampSetting.off), (1, .on), (2, .blink)] →
        (target.toNat = 0 → Performs (.setIndicator tag target value) s .ok .empty fun t => NoReport s t
          ∧ t = { s with port := t.port, mgmt := { s.mgmt with
              lampA :=
                if s.mgmt.lampA.setting = v then s.mgmt.lampA else ⟨v, decide (v ≠ .off), s.clock.laneTime⟩ } })
        ∧ (target.toNat = 1 → Performs (.setIndicator tag target value) s .ok .empty fun t => NoReport s t
          ∧ t = { s with port := t.port, mgmt := { s.mgmt with
              lampB :=
                if s.mgmt.lampB.setting = v then s.mgmt.lampB else ⟨v, decide (v ≠ .off), s.clock.laneTime⟩ } }))
    ∧ (target.toNat = 2 → value.toNat ≤ 20 → Performs (.setIndicator tag target value) s .ok .empty fun t => NoReport s t
        ∧ t = { s with port := t.port, mgmt := { s.mgmt with
            beeper :=
              if value.toNat = 0 then none else some (s.clock.laneTime + BitVec.ofNat 32 (value.toNat * 50)) } })) ∧
 (∀ s : State, s.powered = true →
    (∀ e, s.mgmt.beeper = some e → Runs .beepEnd s fun t => PortStands s t
      ∧ t = { s with port := t.port, mgmt := { s.mgmt with
          beeper :=
            if (s.clock.laneTime - e).toNat < 2147483648 then none else some e } })
    ∧ (s.mgmt.beeper = none → Runs .beepEnd s fun t => PortStands s t ∧ t = { s with port := t.port })
    ∧ ∀ f : Lamp → Lamp,
        (∀ l, f l = if l.setting = .blink ∧ 500 ≤ (s.clock.laneTime - l.since).toNat then
          { l with lit := !l.lit, since := l.since + 500 } else l) →
        Runs .blinkPhase s fun t => PortStands s t
          ∧ t = { s with port := t.port, mgmt := { s.mgmt with lampA := f s.mgmt.lampA, lampB := f s.mgmt.lampB } })

/-- An event at the Reaction unit (R171, R172, R173, R175): while table 7 is not READY it performs nothing; otherwise it acts through the
lamps, the beeper and the REACTION holds alone, and the entries of its source are performed in their order, each upon what the one before
it left. -/
def Obligations.EventsPerformTheirReactionsInOrder : Prop :=
  (∀ (e : SourceEvent) (s : State), s.mgmt.reactions.state ≠ .ready → raiseEvent e s = s)
  ∧ (∀ (e : SourceEvent) (s : State), ∃ t, raiseEvent e s = t
      ∧ t = { s with
          mgmt := { s.mgmt with
            lampA := t.mgmt.lampA, lampB := t.mgmt.lampB, beeper := t.mgmt.beeper
            counters := { s.mgmt.counters with swipesLost := t.mgmt.counters.swipesLost } }
          scan := { s.scan with holdReaction := t.scan.holdReaction }
          swipe := { s.swipe with
            holdReaction := t.swipe.holdReaction, capture := t.swipe.capture, lastReversal := t.swipe.lastReversal } })
  ∧ (∀ (e : SourceEvent) (s : State), s.mgmt.reactions.state = .ready → (∀ p ∈ s.mgmt.reactions.entries, p.2.source ≠ e) →
      raiseEvent e s = s)
  ∧ (∀ (e : SourceEvent) (s : State) (l rest : List (Nat × ReactionEntry)) (i : Nat) (a : Action),
      s.mgmt.reactions.state = .ready → s.mgmt.reactions.entries = l ++ (i, ⟨e, a⟩) :: rest → (∀ p ∈ rest, p.2.source ≠ e) →
      ∀ u, u = (raiseEvent e { s with mgmt := { s.mgmt with reactions := { s.mgmt.reactions with entries := l } } }) →
        raiseEvent e s = perform a { u with mgmt := { u.mgmt with reactions := s.mgmt.reactions } })
  ∧ ∀ s : State,
      (perform .holdScanner s = { s with scan := { s.scan with holdReaction := true } })
      ∧ (perform .releaseScanner s = { s with scan := { s.scan with holdReaction := false } })
      ∧ (perform .holdSwipe s).swipe.isHeld = true
      ∧ ((perform .releaseSwipe s).swipe.isHeld = true ↔ s.swipe.holdHost = true)
      ∧ (∀ n, 1 ≤ n → (perform (.beep n) s).mgmt.beeper = some (s.clock.laneTime + BitVec.ofNat 32 (50 * n)))
      ∧ (∀ v, (perform (.lampA v) s).mgmt.lampA.setting = v ∧ (perform (.lampB v) s).mgmt.lampB.setting = v)

/-- Set Link Rate and Reset (R177, R189): out of their values they are refused; accepted, they set the dispatch pause and answer, and what
they order waits for the end of that response; nothing else changes. -/
def Obligations.SetLinkRateAndResetWaitForTheirResponse : Prop :=
  ∀ (tag a : Byte) (s : State), Ready s →
    (5 < a.toNat → OnlyAnswers (.setLinkRate tag a) s .badArg .empty)
    ∧ (a.toNat ≤ 5 → Runs (.setLinkRate tag a) s fun t => NoReport s t
        ∧ t.port.answers = s.port.answers ++ [responseTo (.setLinkRate tag a) .ok (.small a.toNat) .rateChange]
        ∧ t = { s with port := { s.port with
            pendingRate := some a.toNat, pause := true, assembly := none, ignoring := false, counters := countedFrame s.port
            responses := t.port.responses, reports := t.port.reports, tx := t.port.tx } })
    ∧ (1 < a.toNat → OnlyAnswers (.reset tag a) s .badArg .empty)
    ∧ (a.toNat ≤ 1 → Runs (.reset tag a) s fun t => NoReport s t
        ∧ t.port.answers = s.port.answers ++
          [responseTo (.reset tag a) .ok .empty (if a.toNat = 0 then .laneReset else .fullReset)]
        ∧ t = { s with port := { s.port with
            pause := true, assembly := none, ignoring := false, counters := countedFrame s.port
            responses := t.port.responses, reports := t.port.reports, tx := t.port.tx } })

/-! ## Weighing (01_weighing.md) and weigh requests (03) -/

/-- The figures of the scale (R10, R11, R12): for a calibration within its limits, the interval is the one of the gross value's range, the
indicated weight is the multiple of it nearest to the gross value, ties going away from zero; in the lower range it is zero exactly below
half of d1 (R11 says so of every value, which its own table does not bear out where d2 is wider than twice range1_max).

The calibration curve (R7): it passes through zero and through every point, rises with the count throughout, and between two points and
beyond the ends it is the line of its segment rounded to the nearest milligram. -/
def Obligations.TheWeightFollowsTheCurveAndItsInterval : Prop :=
 (∀ (c : CalRecord) (gross : Int), c.capacityOk = true →
    (c.d2 = 0 → c.interval gross = c.d1 ∧ c.dTop = c.d1)
    ∧ (c.d2 ≠ 0 → c.dTop = c.d2 ∧ (gross ≤ 1000 * c.range1 → c.interval gross = c.d1)
        ∧ (1000 * (c.range1 : Int) < gross → c.interval gross = c.d2))
    ∧ (∃ q : Int, c.indicated gross = c.interval gross * q)
    ∧ 2 * (gross - 1000 * c.indicated gross).natAbs ≤ 1000 * c.interval gross
    ∧ (2 * (gross - 1000 * c.indicated gross).natAbs = 1000 * c.interval gross → gross.natAbs < (1000 * c.indicated gross).natAbs)
    ∧ (c.d2 = 0 ∨ gross ≤ 1000 * c.range1 → (c.indicated gross = 0 ↔ gross.natAbs < 500 * c.d1))
    ∧ (c.isOver gross = true ↔ 1000 * ((c.max : Int) + 9 * c.dTop) < gross)
    ∧ (c.isUnder gross = true ↔ gross < -(20000 * (c.d1 : Int)))) ∧
 (∀ c : CalRecord, c.points ≠ [] → c.countsRise = true → c.massesRise = true →
    c.mCal c.cZero = 0
    ∧ (∀ p ∈ c.points, c.mCal (c.cZero + p.1) = p.2)
    ∧ (∀ f g : Int, f ≤ g → c.mCal f ≤ c.mCal g)
    ∧ ∀ (l rest : List (Nat × Nat)) (x0 m0 x1 m1 : Nat) (x : Int), (0, 0) :: c.points = l ++ (x0, m0) :: (x1, m1) :: rest →
        (x < 0 ∧ l = []) ∨ ((x0 : Int) ≤ x ∧ (x < x1 ∨ rest = [])) →
        2 * (((c.mCal (c.cZero + x) - m0) * ((x1 : Int) - x0)) - (x - x0) * ((m1 : Int) - m0)).natAbs ≤ x1 - x0)

/-- A sample that publishes nothing (R2, R3), in the order of the tests: a rail sample that is not the third, an in-range sample in
FAULT(CONVERTER) that is not the sixteenth, a noisy sample that is not the twelfth, and a sample that leaves the filter window short. LIVE
is off and no request waits for the window to close; at a moment that is no trigger the row changes nothing (log 4).

A sample that is filtered in MEASURING (R2, R6, R7, R9, R13, R14, R21, R31, R49): the mean of the last 16 gives the filtered value,
its gross value joins the last 24, and the load condition is published from them; a load of ZERO arms, and the change of the armed flag is shown (R24). With zero_track at 1
the tracking run (R20) starts at a ZERO, goes on while ZERO stands and stops at another condition; one that runs is younger than a second.
Of the other blocks only what the Reaction unit acts on can change. The head of the weigh queue is then tested for capture. LIVE is off.

The initial zero (R18, R60, R20, R24), tested at a filtered sample in INITIAL_ZERO or ZERO_ERROR: with the stability window full and within
its spread, an m_cal within 10% of Max becomes the zero offset, arms, clears the limit flag, moves the engine to MEASURING and publishes
ZERO with a G of 0, whatever R13 gives for the shifted window (log 42), which starts the tracking run; any other moves INITIAL_ZERO to
ZERO_ERROR. A move shows its SCALE_STATE, and without one the engine stays. -/
def Obligations.SamplesAreDisposedOfAndFiltered : Prop :=
 (∀ (raw : BitVec 24) (s : State), s.powered = true →
    (s.clock.triggerDue = false → Runs (.sampleTrigger raw) s fun t => PortStands s t ∧ t = { s with port := t.port })
    ∧ (s.clock.triggerDue = true → s.mgmt.params.liveWeight = 0 → s.supply.solRequest = none → s.supply.prnRequest = none →
      ∀ rail noisy : Prop, (rail ↔ raw.toInt = -8388608 ∨ raw.toInt = 8388607) →
        (noisy ↔ s.supply.solGrant.isSome = true ∨ s.supply.prnGrant.isSome = true ∨ s.scale.disturbed = true
          ∨ ∃ e, s.scale.shockEnd = some e ∧ 1 ≤ (e - (s.clock.laneTime - 2)).toNat ∧ (e - (s.clock.laneTime - 2)).toNat ≤ 302) →
        (rail → (2 ≤ s.scale.railRun → s.scale.engine = .faultConverter) →
          Runs (.sampleTrigger raw) s fun t => PortStands s t ∧ t = { s with
            port := t.port, clock := { s.clock with sampled := true }
            scale := { s.scale with railRun := s.scale.railRun + 1, inRangeRun := 0, disturbed := false, liveWaits := false } })
        ∧ (¬rail → s.scale.engine = .faultConverter → s.scale.inRangeRun < 15 →
          Runs (.sampleTrigger raw) s fun t => PortStands s t ∧ t = { s with
            port := t.port, clock := { s.clock with sampled := true }
            scale := { s.scale with railRun := 0, inRangeRun := s.scale.inRangeRun + 1, disturbed := false, liveWaits := false } })
        ∧ (¬rail → s.scale.engine ≠ .faultConverter → noisy → s.scale.noisyRun ≠ 11 →
          Runs (.sampleTrigger raw) s fun t => PortStands s t ∧ t = { s with
            port := t.port, clock := { s.clock with sampled := true }
            scale := { s.scale with railRun := 0, noisyRun := s.scale.noisyRun + 1, disturbed := false, liveWaits := false } })
        ∧ (¬rail → s.scale.engine ≠ .faultConverter → ¬noisy → s.scale.filter.length < 15 →
          Runs (.sampleTrigger raw) s fun t => PortStands s t ∧ t = { s with
            port := t.port, clock := { s.clock with sampled := true }
            scale := { s.scale with
              railRun := 0, noisyRun := 0, filter := s.scale.filter ++ [raw.toInt], disturbed := false, liveWaits := false } }))) ∧
 (∀ (raw : BitVec 24) (s : State) (c : CalRecord), s.powered = true → s.clock.triggerDue = true →
    raw.toInt ≠ -8388608 → raw.toInt ≠ 8388607 → s.scale.engine = .measuring → s.scale.cal = some c → s.scale.session = false →
    s.supply.solGrant = none → s.supply.prnGrant = none → s.scale.disturbed = false → s.scale.shockEnd = none →
    (s.mgmt.params.zeroTrack = 1 → ∀ m, s.scale.zeroRun = some m → (s.clock.laneTime - m).toNat < 1000) →
    s.mgmt.params.liveWeight = 0 →
    s.supply.solRequest = none → s.supply.prnRequest = none → 15 ≤ s.scale.filter.length →
    ∀ (w : List Int) (f gross : Int) (v : List Int), w = (s.scale.filter ++ [raw.toInt]).drop (s.scale.filter.length - 15) →
      f = roundDiv w.sum 16 → gross = c.mCal f - s.scale.zMg →
      v = (s.scale.stability ++ [gross]).drop (s.scale.stability.length - 23) →
      Runs (.sampleTrigger raw) s fun t => ∃ p : State,
        LoadIs c gross v p.scale.load p.scale.shown
        ∧ p.scale = { s.scale with
            railRun := 0, noisyRun := 0, filter := w, newest := some f, stability := v
            calWindow := if s.store.sealSwitch = .closed then
              (s.scale.calWindow ++ [f]).drop (s.scale.calWindow.length - 23) else s.scale.calWindow
            load := p.scale.load, shown := p.scale.shown
            zeroRun := if p.scale.load = .zero ∧ s.mgmt.params.zeroTrack = 1 then
              some (s.scale.zeroRun.getD s.clock.laneTime) else none
            armed := s.scale.armed || p.scale.load == .zero }
        ∧ p = { s with scale := p.scale, port := p.port, mgmt := p.mgmt, scan := p.scan, swipe := p.swipe }
        ∧ (p.scale.armed = s.scale.armed → p.scale.load = s.scale.load ∨ (p.scale.load ≠ .zero ∧ p.scale.load ≠ .over) →
            p.port = s.port ∧ p.mgmt = s.mgmt ∧ p.scan = s.scan ∧ p.swipe = s.swipe)
        ∧ (p.scale.armed ≠ s.scale.armed → OnlyStateReports s p
            ∧ ∃ r, p.port.shows (.scaleState r) ∧ r.engine = .measuring ∧ r.load = .zero ∧ r.g = some 0 ∧ r.armed = true
                ∧ r.zMg = s.scale.zMg ∧ r.trackLimit = s.scale.trackLimit ∧ r.flags = s.scale.flags)
        ∧ (s.scale.queue = [] → testCapture p = p)
        ∧ t = { testCapture p with
            clock := { s.clock with sampled := true }, port := (testCapture p).port.startFrame
            scale := { (testCapture p).scale with liveWaits := false } }) ∧
 (∀ (raw : BitVec 24) (s : State) (c : CalRecord), s.powered = true → s.clock.triggerDue = true →
    raw.toInt ≠ -8388608 → raw.toInt ≠ 8388607 → (s.scale.engine = .initialZero ∨ s.scale.engine = .zeroError) →
    s.scale.cal = some c → s.scale.session = false → s.supply.solGrant = none → s.supply.prnGrant = none →
    s.scale.disturbed = false → s.scale.shockEnd = none → s.mgmt.params.liveWeight = 0 →
    s.supply.solRequest = none → s.supply.prnRequest = none → 15 ≤ s.scale.filter.length →
    ∀ (w : List Int) (f gross : Int) (v : List Int) (b : Scale),
      w = (s.scale.filter ++ [raw.toInt]).drop (s.scale.filter.length - 15) →
      f = roundDiv w.sum 16 → gross = c.mCal f - s.scale.zMg →
      v = (s.scale.stability ++ [gross]).drop (s.scale.stability.length - 23) →
      b = { s.scale with
          railRun := 0, noisyRun := 0, filter := w, newest := some f, stability := v, zeroRun := none, liveWaits := false
          calWindow := if s.store.sealSwitch = .closed then
            (s.scale.calWindow ++ [f]).drop (s.scale.calWindow.length - 23) else s.scale.calWindow } →
      Runs (.sampleTrigger raw) s fun t =>
        t = { s with
          clock := { s.clock with sampled := true }, scale := t.scale, port := t.port, mgmt := t.mgmt, scan := t.scan
          swipe := t.swipe }
        ∧ (Steady c v → (c.mCal f).natAbs ≤ 100 * c.max →
            t.scale = { b with
                engine := .measuring, zMg := c.mCal f, stability := v.map (fun e => e - gross), armed := true, trackLimit := false
                load := .zero, shown := some 0
                zeroRun := if s.mgmt.params.zeroTrack = 1 then some s.clock.laneTime else none }
            ∧ ∃ r, t.port.shows (.scaleState r) ∧ r.engine = .measuring ∧ r.zMg = c.mCal f ∧ r.armed = true
                ∧ r.trackLimit = false ∧ r.load = .zero ∧ r.g = some 0)
        ∧ (¬Steady c v ∨ 100 * c.max < (c.mCal f).natAbs →
            LoadIs c gross v t.scale.load t.scale.shown
            ∧ t.scale = { b with
                engine := t.scale.engine
                load := t.scale.load, shown := t.scale.shown, armed := s.scale.armed || t.scale.load == .zero }
            ∧ (¬Steady c v → t.scale.engine = s.scale.engine)
            ∧ (Steady c v → t.scale.engine = .zeroError)
            ∧ (Steady c v → s.scale.engine = .initialZero →
                ∃ r, t.port.shows (.scaleState r) ∧ r.engine = .zeroError ∧ r.zMg = s.scale.zMg ∧ r.load = t.scale.load)))

/-- The converter fault (R22, R23, R51): with three rail samples in a row the engine enters FAULT(CONVERTER), recording the state it is to
resume, and every waiting request ends FAULT in queue order; with sixteen in-range samples it leaves into WARMING with empty windows. Each
shows its SCALE_STATE; before its count either row changes nothing (log 3).

The end of WARMING (R17, R23): once the filter window is full the engine moves to INITIAL_ZERO, or to the state it was to resume, which
is then forgotten; the mean of the window is the newest filtered value. Before that the row changes nothing (log 3). -/
def Obligations.ConverterFaultAndWarmingBeginAndEnd : Prop :=
 ((∀ s : State, s.powered = true →
    (s.scale.railRun < 3 ∨ s.scale.engine = .faultConverter →
      Runs .converterFaultEntry s fun t => PortStands s t ∧ t = { s with port := t.port })
    ∧ ∀ e : Engine, 3 ≤ s.scale.railRun → s.scale.engine ≠ .faultConverter →
        ((s.scale.engine = .measuring ∨ s.scale.engine = .calEdit ∨ s.scale.engine = .faultNotCalibrated) → e = s.scale.engine) →
        (s.scale.engine = .warming → e = s.scale.resume.getD .initialZero) →
        (s.scale.engine = .initialZero ∨ s.scale.engine = .zeroError → e = .initialZero) →
        Runs .converterFaultEntry s fun t =>
          t = { s with
            port := t.port, supply := t.supply, drawer := t.drawer, printer := t.printer
            scale := { s.scale with
              engine := .faultConverter, resume := some e, noisyRun := 0, inRangeRun := 0, zeroRun := none, load := .none
              shown := none, queue := [], outcomes := t.scale.outcomes } }
          ∧ t.supply.quiet = false
          ∧ (s.supply.quiet = false → t.supply = s.supply ∧ t.drawer = s.drawer ∧ t.printer = s.printer)
          ∧ t.weightTrail = s.weightTrail ++ s.scale.queue.map (fun r => weightReportOf s r .fault none)
          ∧ ∃ r, t.port.shows (.scaleState r) ∧ r.engine = .faultConverter ∧ r.load = .none ∧ r.g = none ∧ r.zMg = s.scale.zMg
              ∧ r.armed = s.scale.armed ∧ r.flags = s.scale.flags)
  ∧ ∀ s : State, s.powered = true →
    (s.scale.inRangeRun < 16 ∨ s.scale.engine ≠ .faultConverter →
      Runs .converterFaultExit s fun t => PortStands s t ∧ t = { s with port := t.port })
    ∧ (16 ≤ s.scale.inRangeRun → s.scale.engine = .faultConverter →
        Runs .converterFaultExit s fun t =>
          t = { s with
            port := t.port
            scale := { s.scale with
              engine := .warming, filter := [], stability := [], calWindow := [], newest := none, zeroRun := none, load := .none
              shown := none } }
          ∧ ∃ r, t.port.shows (.scaleState r) ∧ r.engine = .warming ∧ r.load = .none ∧ r.armed = s.scale.armed)) ∧
 (∀ s : State, s.powered = true →
    (s.scale.engine ≠ .warming ∨ s.scale.filter.length ≠ 16 →
      Runs .warmingEnd s fun t => PortStands s t ∧ t = { s with port := t.port })
    ∧ (s.scale.engine = .warming → s.scale.filter.length = 16 → s.scale.stability = [] →
        Runs .warmingEnd s fun t =>
          t.scale.engine = s.scale.resume.getD .initialZero ∧ t.scale.resume = none ∧ t.scale.filter = s.scale.filter
          ∧ t.scale.newest = some (roundDiv s.scale.filter.sum 16) ∧ t.scale.zMg = s.scale.zMg ∧ t.scale.cal = s.scale.cal
          ∧ t.clock = s.clock ∧ t.store = s.store ∧ t.sales = s.sales
          ∧ (∀ c, s.scale.cal = some c → s.scale.session = false → s.scale.resume = none →
              t.scale.stability = [c.mCal (roundDiv s.scale.filter.sum 16) - s.scale.zMg])
          ∧ ∃ r, t.port.shows (.scaleState r) ∧ r.engine = t.scale.engine))

/-- Starvation (R5, R31): with twelve noisy samples in a row both stability windows are emptied, and the load condition is published again
from the last gross value: OVER, UNDER or MOTION. A shorter run changes nothing (log 3).

LIVE (R25, R1): at each trigger, on the load that its sample leaves, a report is formed while live_weight is 1 and the load condition
or the weight differs from the last one 250 ms ago or longer, or there is no last one; it is then remembered. The row alone does the same
at a trigger whose sample has been handled, but a memory emptied since the last trigger waits for the next; otherwise it changes nothing
(log 3).

The end of shock hold (R4, R3): at its end time it is over, and it has touched the conversion window that is open (log 36); before
that nothing changes (log 4). -/
def Obligations.StarvationShockAndLiveReports : Prop :=
 (∀ s : State, s.powered = true →
    (s.scale.noisyRun < 12 → Runs .starvation s fun t => PortStands s t ∧ t = { s with port := t.port })
    ∧ ∀ c f, 12 ≤ s.scale.noisyRun → s.scale.cal = some c → s.scale.session = false → s.scale.engine.isFault = false →
        s.scale.newest = some f →
        Runs .starvation s fun t =>
          LoadIs c (c.mCal f - s.scale.zMg) [] t.scale.load t.scale.shown
          ∧ t = { s with
              port := t.port, mgmt := t.mgmt, scan := t.scan, swipe := t.swipe
              scale := { s.scale with
                stability := [], calWindow := [], zeroRun := none, load := t.scale.load, shown := t.scale.shown } }
          ∧ (t.scale.load ≠ .over → PortStands s t ∧ t.mgmt = s.mgmt ∧ t.scan = s.scan ∧ t.swipe = s.swipe)) ∧
 ((∀ (raw : BitVec 24) (s : State), s.powered = true → s.clock.triggerDue = true →
    Runs (.sampleTrigger raw) s fun t => t.scale.liveWaits = false
      ∧ ∀ due : Prop, (due ↔ s.mgmt.params.liveWeight = 1 ∧ ∀ m, s.scale.liveMemory = some m →
          (m.load ≠ t.scale.load ∨ m.g ≠ t.scale.shown) ∧ 250 ≤ (s.clock.laneTime - m.time).toNat) →
        (due → t.port.shows (.live ⟨t.scale.load, t.scale.shown⟩)
          ∧ t.scale.liveMemory = some ⟨t.scale.load, t.scale.shown, s.clock.laneTime⟩)
        ∧ (¬due → t.scale.liveMemory = s.scale.liveMemory)) ∧
  ∀ (s : State) (due : Prop), s.powered = true →
    (due ↔ s.clock.phase = 0 ∧ s.clock.sampled = true ∧ s.mgmt.params.liveWeight = 1 ∧ s.scale.liveWaits = false
      ∧ ∀ m, s.scale.liveMemory = some m →
          (m.load ≠ s.scale.load ∨ m.g ≠ s.scale.shown) ∧ 250 ≤ (s.clock.laneTime - m.time).toNat) →
    (due → Runs .liveReport s fun t => t.port.shows (.live ⟨s.scale.load, s.scale.shown⟩)
      ∧ t = { s with
          port := t.port
          scale := { s.scale with liveMemory := some ⟨s.scale.load, s.scale.shown, s.clock.laneTime⟩ } })
    ∧ (¬due → Runs .liveReport s fun t => PortStands s t ∧ t = { s with port := t.port })) ∧
 (∀ s : State, s.powered = true →
    ((∀ e, s.scale.shockEnd = some e → 2147483648 ≤ (s.clock.laneTime - e).toNat) →
      Runs .shockHoldEnd s fun t => PortStands s t ∧ t = { s with port := t.port })
    ∧ ∀ e, s.scale.shockEnd = some e → (s.clock.laneTime - e).toNat < 2147483648 →
        ∀ inWindow : Bool, (inWindow = true ↔ 6000 < s.clock.instant % 8000 ∨ (s.clock.instant % 8000 = 0 ∧ s.clock.sampled = false)) →
        Runs .shockHoldEnd s fun t => PortStands s t
          ∧ t = { s with port := t.port, scale := { s.scale with shockEnd := none, disturbed := s.scale.disturbed || inWindow } })

/-- Zero tracking (R20, R9): a second after the run began, at a load of ZERO in MEASURING, the whole gross value is absorbed if the offset
stays within 2% of Max; otherwise the offset stands and the limit flag is set and shown. The run restarts. After a
change of the offset the load is what R13 and R14 give for the shifted window, and a load other than ZERO stops the run: that is the
model's choice (log 42). A gross value of 0 only clears the flag. At no other moment does the row change anything (log 3).

Set Zero (R19, R20, R60), with its tests in order: accepted, the m_cal of the newest filtered value becomes the zero offset, the stability
window shifts with it, the armed flag is set, the limit flag is cleared, ZERO is published with a G of 0, whatever R13 gives for
the shifted window (log 42), the tracking run restarts, and SCALE_STATE is shown. -/
def Obligations.ZeroIsSetAndTracked : Prop :=
 (∀ (s : State) (due : Prop), s.powered = true →
    (due ↔ s.scale.engine = .measuring ∧ s.mgmt.params.zeroTrack = 1 ∧ s.scale.load = .zero
      ∧ ∃ t0, s.scale.zeroRun = some t0 ∧ 1000 ≤ (s.clock.laneTime - t0).toNat) →
    (¬due → Runs .zeroTracking s fun t => PortStands s t ∧ t = { s with port := t.port })
    ∧ ∀ c f gross, due → s.scale.cal = some c → s.scale.newest = some f → gross = c.mCal f - s.scale.zMg →
        ((s.scale.zMg + gross).natAbs ≤ 20 * c.max → gross ≠ 0 →
          Runs .zeroTracking s fun t =>
            t = { s with
              port := t.port, mgmt := t.mgmt, scan := t.scan, swipe := t.swipe
              scale := { s.scale with
                zMg := c.mCal f, stability := s.scale.stability.map (fun e => e - gross), trackLimit := false
                load := t.scale.load, shown := t.scale.shown, armed := s.scale.armed || t.scale.load == .zero
                zeroRun := if t.scale.load = .zero then some s.clock.laneTime else none } }
            ∧ (s.scale.session = false → LoadIs c 0 t.scale.stability t.scale.load t.scale.shown)
            ∧ ∃ r, t.port.shows (.scaleState r) ∧ r.zMg = c.mCal f ∧ r.trackLimit = false)
        ∧ (s.scale.zMg.natAbs ≤ 20 * c.max → gross = 0 →
          Runs .zeroTracking s fun t => PortStands s t
            ∧ t = { s with
                port := t.port, scale := { s.scale with trackLimit := false, zeroRun := some s.clock.laneTime } })
        ∧ (20 * c.max < (s.scale.zMg + gross).natAbs →
          Runs .zeroTracking s fun t =>
            t = { s with
              port := t.port
              scale := { s.scale with
                trackLimit := true, flags := { s.scale.flags with trackLimitHit := true }, zeroRun := some s.clock.laneTime } }
            ∧ ∃ r, t.port.shows (.scaleState r) ∧ r.zMg = s.scale.zMg ∧ r.trackLimit = true ∧ r.flags.trackLimitHit = true)) ∧
 (∀ (tag : Byte) (s : State), Ready s →
    (s.scale.engine ≠ .measuring ∨ (s.scale.load ≠ .zero ∧ s.scale.load ≠ .stable) → OnlyAnswers (.setZero tag) s .state .empty)
    ∧ (s.scale.engine = .measuring → s.scale.load = .zero ∨ s.scale.load = .stable →
        (s.scale.queue ≠ [] → OnlyAnswers (.setZero tag) s .pendingWeigh .empty)
        ∧ ∀ c f, s.scale.queue = [] → s.scale.cal = some c → s.scale.newest = some f →
            (20 * c.max < (c.mCal f).natAbs → OnlyAnswers (.setZero tag) s .outOfRange .empty)
            ∧ ((c.mCal f).natAbs ≤ 20 * c.max → Performs (.setZero tag) s .ok .empty fun t =>
                t = { s with
                  port := t.port, mgmt := t.mgmt, scan := t.scan, swipe := t.swipe
                  scale := { s.scale with
                    zMg := c.mCal f, stability := s.scale.stability.map (fun e => e - (c.mCal f - s.scale.zMg)), armed := true
                    trackLimit := false, load := .zero, shown := some 0
                    zeroRun := if s.mgmt.params.zeroTrack = 1 then some s.clock.laneTime else none } }
                ∧ ∃ r, t.port.shows (.scaleState r) ∧ r.zMg = c.mCal f ∧ r.armed = true ∧ r.trackLimit = false
                    ∧ r.load = .zero ∧ r.g = some 0)))

/-- Request Weight (R43, R44, R46, R47, R48), with its tests in order: accepted, it takes the first number not in use from the counter on, and joins the tail
of the queue, or becomes head of an empty one, where a tare that is not there or a fault ends it at once with its report.

Cancel Weigh Request (R52): a number that names no waiting request is answered ALREADY if it names a token and BAD_TOKEN otherwise;
a waiting request ends CANCELLED with its report, the others close up, and behind a head that left the next that may wait becomes head
now (R48 ends the others at once).

The timeout of the head (R50): at weigh_wait_s the head ends TIMEOUT with its report, WEIGH_TIMEOUT is raised, and the next that may
wait becomes head now, passed over by an evaluation of the same moment (log 52); before that nothing changes (log 4). -/
def Obligations.WeighRequestsQueueAndEnd : Prop :=
 (∀ (tag tareClass : Byte) (sale : BitVec 16) (s : State), Ready s →
    (15 < tareClass.toNat → OnlyAnswers (.requestWeight tag tareClass sale) s .badArg .empty)
    ∧ (tareClass.toNat ≤ 15 →
        (s.sales.find? sale.toNat = none → OnlyAnswers (.requestWeight tag tareClass sale) s .noSale .empty)
        ∧ ∀ slot x, s.sales.find? sale.toNat = some (slot, x) →
            (x.state ≠ .opened → OnlyAnswers (.requestWeight tag tareClass sale) s .state .empty)
            ∧ (x.state = .opened →
                (4 ≤ s.scale.queue.length + s.scale.outcomes.length
                    ∨ 64 ≤ x.tokens.length + s.scale.queue.countP (fun r => r.sale == x.number) →
                  OnlyAnswers (.requestWeight tag tareClass sale) s .noRoom .empty)
                ∧ (s.scale.queue.length + s.scale.outcomes.length < 4 →
                    x.tokens.length + s.scale.queue.countP (fun r => r.sale == x.number) < 64 →
                    1 ≤ s.sales.nextToken → s.sales.nextToken ≤ 65535 → (numbersInUse s).length ≤ 200 →
                    ∃ n, FirstUnused s n ∧ 1 ≤ n ∧ n ≤ 65535
                      ∧ ∀ r : WeighRequest, r = ⟨n, slot, x.number, .host, none, tareClass.toNat, none⟩ →
                        Performs (.requestWeight tag tareClass sale) s .ok (.token n) fun t =>
                          t = { s with
                            port := t.port, sales := { s.sales with nextToken := nextNumber n }, drawer := t.drawer
                            printer := t.printer, supply := t.supply
                            scale := { s.scale with queue := t.scale.queue, outcomes := t.scale.outcomes } }
                          ∧ (s.scale.queue ≠ [] → NoReport s t ∧ t.scale.queue = s.scale.queue ++ [r]
                              ∧ t.scale.outcomes = s.scale.outcomes ∧ t.supply = s.supply)
                          ∧ (s.scale.queue = [] → s.supply.quiet = false →
                              ∀ (tared fault : Prop), (tared ↔ tareClass.toNat = 0 ∨ (s.mgmt.tares.state = .ready
                                ∧ (s.mgmt.tares.at? tareClass.toNat).isSome = true)) →
                              (fault ↔ s.scale.engine = .faultConverter ∨ s.scale.engine = .faultNotCalibrated) →
                              (¬tared → t.scale.queue = [] ∧ t.supply = s.supply
                                ∧ t.weightTrail = s.weightTrail ++ [weightReportOf s r .tareUnavailable none])
                              ∧ (tared → fault → t.scale.queue = [] ∧ t.supply = s.supply
                                ∧ t.weightTrail = s.weightTrail ++ [weightReportOf s r .fault none])
                              ∧ (tared → ¬fault → NoReport s t ∧ t.scale.outcomes = s.scale.outcomes
                                ∧ t.scale.queue = [{ r with headTime := some s.clock.laneTime }]
                                ∧ t.supply = { s.supply with quiet := s.supply.prnGrant.isNone })))))) ∧
 (∀ (tag : Byte) (token : BitVec 16) (s : State), Ready s →
    ((∀ r ∈ s.scale.queue, r.number ≠ token.toNat) →
      ((∃ k ∈ s.sales.tokens, k.number = token.toNat) → OnlyAnswers (.cancelWeighRequest tag token) s .already .empty)
      ∧ ((∀ k ∈ s.sales.tokens, k.number ≠ token.toNat) → OnlyAnswers (.cancelWeighRequest tag token) s .badToken .empty))
    ∧ ∀ l r rest, s.scale.queue = l ++ r :: rest → r.number = token.toNat → (∀ q ∈ l ++ rest, q.number ≠ token.toNat) →
        Performs (.cancelWeighRequest tag token) s .ok .empty fun t =>
          t = { s with
            port := t.port, drawer := t.drawer, printer := t.printer, supply := t.supply
            scale := { s.scale with queue := t.scale.queue, outcomes := t.scale.outcomes } }
          ∧ (s.weightTrail ++ [weightReportOf s r .cancelled none]) <+: t.weightTrail
          ∧ (l ≠ [] → t.scale.queue = l ++ rest ∧ t.supply = s.supply
              ∧ t.weightTrail = s.weightTrail ++ [weightReportOf s r .cancelled none])
          ∧ (l = [] → t.scale.queue.tail <:+ rest.tail
              ∧ ∀ h, t.scale.queue.head? = some h → h.headTime = some s.clock.laneTime
                  ∧ ∃ q ∈ rest, h = { q with headTime := some s.clock.laneTime })
          ∧ (l = [] → rest = [] → t.scale.queue = [] ∧ t.supply.quiet = false)
          ∧ (l = [] → ∀ q more, rest = q :: more → q.tareClass = 0 → s.scale.engine = .measuring →
              t.scale.queue = { q with headTime := some s.clock.laneTime } :: more)) ∧
 (∀ (s : State) (due : Prop), s.powered = true →
    (due ↔ ∃ r rest h, s.scale.queue = r :: rest ∧ r.headTime = some h
      ∧ s.mgmt.params.weighWaitS * 1000 ≤ (s.clock.laneTime - h).toNat) →
    (¬due → Runs .weighTimeout s fun t => PortStands s t ∧ t = { s with port := t.port })
    ∧ ∀ r rest, due → s.scale.queue = r :: rest →
        Runs .weighTimeout s fun t =>
          t = { s with
            port := t.port, drawer := t.drawer, printer := t.printer, supply := t.supply, mgmt := (raiseEvent .weighTimeout s).mgmt
            scan := (raiseEvent .weighTimeout s).scan, swipe := (raiseEvent .weighTimeout s).swipe
            scale := { s.scale with
              queue := t.scale.queue, outcomes := t.scale.outcomes
              passedOver := t.scale.queue.head?.map WeighRequest.number } }
          ∧ (s.weightTrail ++ [weightReportOf s r .timeout none]) <+: t.weightTrail
          ∧ (rest = [] → t.scale.queue = [] ∧ t.supply.quiet = false)
          ∧ ∀ q more, rest = q :: more → q.tareClass = 0 → s.scale.engine = .measuring →
              t.scale.queue = { q with headTime := some s.clock.laneTime } :: more)

/-- Capture (R49, R50, R53, R55, R56): at an evaluation the head is captured exactly when the engine is MEASURING, the load STABLE, the armed
flag set and the weight within Min and Max, unless an expiry of the same moment has seated it. A positive net makes a token with the figures of that evaluation, disarms, and reports
CAPTURED; a net of 0 or less reports NET_NOT_POSITIVE and makes none. -/
def Obligations.TheHeadIsCapturedAtItsEvaluation : Prop :=
  ∀ (s : State) (c : CalRecord) (f : Int) (r : WeighRequest) (rest : List WeighRequest) (able : Prop),
    s.scale.cal = some c → s.scale.newest = some f → s.scale.queue = r :: rest →
    (able ↔ s.scale.engine = .measuring ∧ s.scale.load = .stable ∧ s.scale.armed = true ∧ s.scale.passedOver ≠ some r.number
      ∧ ∃ g, s.scale.shown = some g ∧ (20 * c.d1 : Int) ≤ g ∧ g ≤ c.max) →
    (¬able → testCapture s = s)
    ∧ ∀ (g tare : Int) (q : Figures), able → s.scale.shown = some g →
        tare = (if r.tareClass = 0 then 0 else (s.mgmt.tares.at? r.tareClass).getD 0) →
        q = ⟨g, c.interval (c.mCal f - s.scale.zMg), tare, g - tare⟩ →
        (g ≤ tare →
          (s.weightTrail ++ [weightReportOf s r .netNotPositive (some q)]) <+: (testCapture s).weightTrail
          ∧ (testCapture s).sales = s.sales ∧ (testCapture s).scale.armed = true
          ∧ (testCapture s).mgmt = s.mgmt ∧ (testCapture s).clock = s.clock)
        ∧ (tare < g →
          (s.weightTrail ++ [weightReportOf s r .captured (some q)]) <+: (testCapture s).weightTrail
          ∧ (∀ x, s.sales.at? r.slot = some x → (testCapture s).sales = s.sales.put r.slot (some { x with
              tokens := x.tokens ++ [⟨r.number, r.sale, r.itemCode, r.tareClass, q, s.clock.laneTime, .captured⟩] }))
          ∧ (testCapture s).scale.armed = false ∧ (testCapture s).clock = s.clock ∧ (testCapture s).store = s.store
          ∧ (testCapture s).mgmt = (raiseEvent .weightCaptured s).mgmt
          ∧ ∃ m, (testCapture s).port.shows (.scaleState m) ∧ m.armed = false)
        ∧ (testCapture s).scale.queue.length ≤ rest.length

/-! ## Calibration and the sealed record (02_calibration_and_the_sealed_record.md) -/

/-- The record image (R28, 13.6): 48 characters, closed by the CRC of the first 46; the image of every record of the field widths reads back
as that record, and an image whose CRC does not match reads as none. -/
def Obligations.TheRecordImageReadsBack : Prop :=
  (∀ c : CalRecord, c.max < 65536 → c.d1 < 256 → c.d2 < 256 → c.range1 < 65536 → -2147483648 ≤ c.cZero → c.cZero < 2147483648 →
    c.points.length ≤ 4 → (∀ p ∈ c.points, p.1 < 4294967296 ∧ p.2 < 4294967296) → c.counter < 65536 →
    c.image.length = 48 ∧ readImage c.image = some c)
  ∧ ∀ b : List Byte, be16 (crc16 (b.take 46)) ≠ b.drop 46 → readImage b = none

/-- A change of the seal switch (R30, R31, R41): a level that stands changes nothing; otherwise the reading changes and the calibration
window is emptied, and an opening with a session open and no commit in flight discards the edits.

Discard Calibration (R32, R41), with its tests in order: the copy is dropped for the stored record. -/
def Obligations.TheSealSwitchAndDiscardEndAnEdit : Prop :=
 (∀ (level : SealLevel) (s : State), s.powered = true →
    (s.store.sealSwitch = level →
      Runs (.sealSwitchChange level) s fun t => PortStands s t
        ∧ t = { s with port := t.port, inputs := { s.inputs with sealSwitch := level } })
    ∧ (s.store.sealSwitch ≠ level → level = .closed ∨ s.scale.session = false ∨ s.store.inFlight.isSome = true →
      Runs (.sealSwitchChange level) s fun t => PortStands s t
        ∧ t = { s with
            port := t.port, inputs := { s.inputs with sealSwitch := level }, store := { s.store with sealSwitch := level }
            scale := { s.scale with calWindow := [] } })
    ∧ (s.store.sealSwitch = .closed → level = .opened → s.scale.session = true → s.store.inFlight = none →
      Runs (.sealSwitchChange level) s fun t => Discarded s t ∧ t.scale.calWindow = []
        ∧ t.inputs = { s.inputs with sealSwitch := level } ∧ t.store = { s.store with sealSwitch := level })) ∧
 (∀ (tag : Byte) (s : State), Ready s →
    (s.store.sealSwitch = .opened → OnlyAnswers (.discardCalibration tag) s .sealedOff .empty)
    ∧ (s.store.sealSwitch = .closed → s.store.inFlight.isSome = true → OnlyAnswers (.discardCalibration tag) s .busy .empty)
    ∧ (s.store.sealSwitch = .closed → s.store.inFlight = none → s.scale.session = false →
        OnlyAnswers (.discardCalibration tag) s .state .empty)
    ∧ (s.store.sealSwitch = .closed → s.store.inFlight = none → s.scale.session = true →
        Performs (.discardCalibration tag) s .ok .empty fun t => Discarded s t ∧ t.inputs = s.inputs ∧ t.store = s.store
          ∧ t.scale.calWindow = s.scale.calWindow))

/-- Set Capacity and Set Cal Point (R32, R34, R37), with their tests in order: the values of the capacity, each within its own range, or one
point of the copy by value, or its removal with every point above it; the copy becomes the working calibration. It is made from the
working calibration, and without one from the blank copy. That the SCALE_STATE of a
session's first edit carries the load under the new calibration (log 41), and that the removal of no point, one above the last, opens a
session as any edit does (log 43), is the model's choice. -/
def Obligations.EditsByValueChangeTheCopy : Prop :=
  (∀ s : State, EditCopyStands s)
  ∧ (∀ (tag : Byte) (max d1 d2 range1 : BitVec 32) (s : State), Ready s → ∀ i, i = Instr.setCapacity tag max d1 d2 range1 →
    (∀ st, EditRefused s st → OnlyAnswers i s st .empty)
    ∧ (s.store.sealSwitch = .closed → s.store.inFlight = none → s.scale.engine ≠ .warming →
        ∀ ok : Prop, (ok ↔ 1000 ≤ max.toNat ∧ max.toNat ≤ 60000 ∧ d1.toNat ∈ [1, 2, 5, 10, 20, 50]
            ∧ d2.toNat ∈ [0, 1, 2, 5, 10, 20, 50] ∧ range1.toNat ≤ 60000) →
          (¬ok → OnlyAnswers i s .badArg .empty)
          ∧ (ok → Performs i s .ok .empty fun t => Edited s t
              { editCopy s with max := max.toNat, d1 := d1.toNat, d2 := d2.toNat, range1 := range1.toNat })))
  ∧ ∀ (tag index : Byte) (count mass : BitVec 32) (s : State), Ready s → ∀ i, i = Instr.setCalPoint tag index count mass →
    (∀ st, EditRefused s st → OnlyAnswers i s st .empty)
    ∧ (s.store.sealSwitch = .closed → s.store.inFlight = none → s.scale.engine ≠ .warming →
        ∀ (n k : Nat), n = index.toNat → k = (editCopy s).points.length →
          (n = 0 ∨ 4 < n ∨ k + 1 < n → OnlyAnswers i s .badArg .empty)
          ∧ (1 ≤ n → n ≤ 4 → n ≤ k + 1 →
              (count.toNat = 0 → mass.toNat = 0 → Performs i s .ok .empty fun t =>
                Edited s t { editCopy s with points := (editCopy s).points.take (n - 1) })
              ∧ (count.toNat ≠ 0 ∨ mass.toNat ≠ 0 →
                  ∀ ok : Prop, (ok ↔ 1 ≤ count.toNat ∧ count.toNat ≤ 33554431 ∧ 1 ≤ mass.toNat ∧ mass.toNat ≤ 134217727) →
                    (¬ok → OnlyAnswers i s .badArg .empty)
                    ∧ (ok → Performs i s .ok .empty fun t => Edited s t { editCopy s with
                        points := (editCopy s).points.take (n - 1) ++ [(count.toNat, mass.toNat)] ++ (editCopy s).points.drop n }))))

/-- Capture Cal Zero and Capture Cal Point (R31, R32, R35, R36), with their tests in order: the newest filtered value, while the calibration
window is full and within 20 counts, becomes the zero count of the copy, or one point's counts above it; the copy is made from the working
calibration, and without one from the blank copy. That the SCALE_STATE of a
session's first edit carries the load under the new calibration is the model's choice (log 41). -/
def Obligations.CapturesTakeTheStableCount : Prop :=
  (∀ s : State, EditCopyStands s)
  ∧ (∀ (tag : Byte) (s : State), Ready s →
    (∀ st, EditRefused s st → OnlyAnswers (.captureCalZero tag) s st .empty)
    ∧ (s.store.sealSwitch = .closed → s.store.inFlight = none → s.scale.engine ≠ .warming →
        (s.scale.engine = .faultConverter ∨ ¬CountsSteady s → OnlyAnswers (.captureCalZero tag) s .state .empty)
        ∧ ∀ f, s.scale.engine ≠ .faultConverter → CountsSteady s → s.scale.newest = some f →
            Performs (.captureCalZero tag) s .ok .empty fun t => Edited s t { editCopy s with cZero := f }))
  ∧ ∀ (tag index : Byte) (mass : BitVec 32) (s : State), Ready s → ∀ i, i = Instr.captureCalPoint tag index mass →
    (∀ st, EditRefused s st → OnlyAnswers i s st .empty)
    ∧ (s.store.sealSwitch = .closed → s.store.inFlight = none → s.scale.engine ≠ .warming →
        ∀ (n k : Nat), n = index.toNat → k = (editCopy s).points.length →
          (n = 0 ∨ 4 < n ∨ k + 1 < n ∨ mass.toNat = 0 ∨ 134217727 < mass.toNat → OnlyAnswers i s .badArg .empty)
          ∧ (1 ≤ n → n ≤ 4 → n ≤ k + 1 → 1 ≤ mass.toNat → mass.toNat ≤ 134217727 →
              (s.scale.engine = .faultConverter ∨ ¬CountsSteady s → OnlyAnswers i s .state .empty)
              ∧ ∀ f, s.scale.engine ≠ .faultConverter → CountsSteady s → s.scale.newest = some f →
                  (f - (editCopy s).cZero < 1 → OnlyAnswers i s .outOfRange .empty)
                  ∧ ∀ counts : Nat, (counts : Int) = f - (editCopy s).cZero → 1 ≤ counts →
                      Performs i s .ok .empty fun t => Edited s t { editCopy s with
                        points := (editCopy s).points.take (n - 1) ++ [(counts, mass.toNat)] ++ (editCopy s).points.drop n }))

/-- Commit Calibration (R32, R38), with its tests in order: the number of the first check that the copy fails goes with the refusal;
accepted, the erase begins, the block is invalid from then on, and the image to be written takes its counter and restart mark from the
record stored. The copy is the working calibration of the session. Nothing else changes.

The end of the erase (R38): no earlier than 15 ms after the commit began, the write begins; before that, and with no erase running,
nothing changes (log 12, log 4). -/
def Obligations.CommitErasesAndThenWrites : Prop :=
 ((∀ s : State, EditCopyStands s)
  ∧ ∀ (tag : Byte) (s : State), Ready s →
    (s.store.sealSwitch = .opened → OnlyAnswers (.commitCalibration tag) s .sealedOff .empty)
    ∧ (s.store.sealSwitch = .closed → s.store.inFlight.isSome = true → OnlyAnswers (.commitCalibration tag) s .busy .empty)
    ∧ (s.store.sealSwitch = .closed → s.store.inFlight = none →
        (s.scale.session = false → OnlyAnswers (.commitCalibration tag) s .state .empty)
        ∧ ∀ (c : CalRecord) (check : Nat → Prop), s.scale.session = true → c = editCopy s →
            (check 1 ↔ CapacityLimits c) → (check 2 ↔ 1 ≤ c.points.length) →
            (check 3 ↔ (0 :: c.points.map Prod.fst).Pairwise (· < ·)) → (check 4 ↔ (0 :: c.points.map Prod.snd).Pairwise (· < ·)) →
            (check 5 ↔ ∀ p, c.points.getLast? = some p → 100 * c.max ≤ p.2) →
            (∀ n, 1 ≤ n → n ≤ 5 → ¬check n → (∀ m, 1 ≤ m → m < n → check m) →
              OnlyAnswers (.commitCalibration tag) s .badArg (.small n))
            ∧ ((∀ n, 1 ≤ n → n ≤ 5 → check n) →
                ∀ image : CalRecord, image = (match s.store.copy with
                  | some r => { c with counter := min (r.counter + 1) 65535, restart := r.restart }
                  | none => { c with counter := 1, restart := true }) →
                (∀ r, s.store.copy = some r → r.counter ≤ 65535) →
                Performs (.commitCalibration tag) s .ok .empty fun t => NoReport s t
                  ∧ t = { s with
                      port := t.port
                      store := { s.store with block := none, inFlight := some ⟨false, s.clock.swipeClock, image, false⟩ } }))) ∧
 (∀ s : State, s.powered = true →
    ((∀ op, s.store.inFlight = some op → op.writing = true ∨ (s.clock.swipeClock - op.since).toNat < 15000) →
      Runs .calEraseEnd s fun t => PortStands s t ∧ t = { s with port := t.port })
    ∧ ∀ op, s.store.inFlight = some op → op.writing = false → 15000 ≤ (s.clock.swipeClock - op.since).toNat →
        Runs .calEraseEnd s fun t => PortStands s t
          ∧ t = { s with
              port := t.port
              store := { s.store with inFlight := some { op with writing := true, since := s.clock.swipeClock } } })

/-- The completion of a commit (R39, R40): no earlier than 5 ms into the write (log 12), the block and the copy hold the image, the Tare
Table is EMPTY, the requests that it strands end TARE_UNAVAILABLE, and CAL_COMMITTED is shown. Unless a FULL reset came since, the image is
the working calibration, the session is closed, the zero offset is 0, the armed flag is clear, and the engine starts at INITIAL_ZERO. That
the stranded requests end, and the SCALE_STATE follows, after a FULL reset too is the model's choice (log 40). -/
def Obligations.CommitCompleteStoresTheImage : Prop :=
  ∀ s : State, s.powered = true →
    ((∀ op, s.store.inFlight = some op → op.writing = false ∨ (s.clock.swipeClock - op.since).toNat < 5000) →
      Runs .commitComplete s fun t => PortStands s t ∧ t = { s with port := t.port })
    ∧ ∀ op, s.store.inFlight = some op → op.writing = true → 5000 ≤ (s.clock.swipeClock - op.since).toNat →
        Runs .commitComplete s fun t =>
          t.store = { s.store with block := some op.image.image, copy := some op.image, inFlight := none }
          ∧ t.mgmt.tares = ⟨.empty, [], 1⟩ ∧ t.mgmt.params = s.mgmt.params ∧ t.clock = s.clock ∧ t.sales = s.sales
          ∧ (∀ r ∈ t.scale.queue, r.tareClass = 0)
          ∧ (s.weightTrail ++ (s.scale.queue.filter fun r => r.tareClass != 0).map
              (fun r => weightReportOf s r .tareUnavailable none)) <+: t.weightTrail
          ∧ t.scale.flags = { s.scale.flags with calCommitted := true }
          ∧ (∃ r, t.port.shows (.scaleState r) ∧ r.flags.calCommitted = true ∧ r.engine = t.scale.engine ∧ r.zMg = t.scale.zMg
              ∧ r.armed = t.scale.armed ∧ ∀ c, t.scale.cal = some c → r.counter = c.counter)
          ∧ (op.afterFull = true → t.scale = { s.scale with
              queue := t.scale.queue, outcomes := t.scale.outcomes, flags := t.scale.flags })
          ∧ (op.afterFull = false → Recalibrated s t (some op.image) ∧ MovedTo s t .initialZero ∧ t.scale.session = false
              ∧ t.scale.zMg = 0 ∧ t.scale.armed = false)

/-! ## Scanner intake (04_scanner_intake_and_item_classes.md) -/

/-- Check digits and the lookup (R65, R68): the weights run 3, 1, 3, 1 leftwards from the digit before the check digit; the entry that wins
is a candidate that no candidate beats by a longer prefix, or at the same length by the code's own length; without a candidate none wins. -/
def Obligations.CheckDigitsAndTheWinningEntry : Prop :=
  (∀ code : List Byte, isRetail code = true → ∀ d : Nat → Nat, (∀ k, d k = (code.getD k 0x30).toNat - 0x30) →
    (checkDigitOk code = true ↔
      (d (code.length - 1) + ((List.range (code.length - 1)).map fun k =>
        (if (code.length - 2 - k) % 2 = 0 then 3 else 1) * d k).sum) % 10 = 0))
  ∧ ∀ (code : List Byte) (entries : List (Nat × ItemEntry)),
      (lookupItem code entries none = none ↔ ∀ p ∈ entries, p.2.matches code = false)
      ∧ ∀ i e, lookupItem code entries none = some (i, e) →
          (i, e) ∈ entries ∧ (e.codeLength = 0 ∨ e.codeLength = code.length) ∧ e.lead <+: code
          ∧ ∀ p ∈ entries, (p.2.codeLength = 0 ∨ p.2.codeLength = code.length) → p.2.lead <+: code →
              p.2.lead.length < e.lead.length
                ∨ (p.2.lead.length = e.lead.length ∧ (e.codeLength ≠ 0 ∨ p.2.codeLength = 0))

/-- Assembly (R63, R64, R73, R74): a character joins the frame in progress and brings it its first fault; a CR with no frame is ignored, a
frame with a fault is discarded and counted for it, a finished one waits behind a full slot, and otherwise it is processed at once. Which
fault a character brings that meets two of them, LINE, BAD_CHAR, LONG in that order, is the model's choice (log 24). -/
def Obligations.ScannerCharactersFormFrames : Prop :=
  ∀ (data : Byte) (framing : Bool) (s : State), s.powered = true →
    (data ≠ 0x0D ∨ framing = true →
      ∀ met : Option ScanFault, met = (if framing = true ∨ s.scan.finished.isSome = true
            ∨ (s.scan.count = 0 ∧ (s.scan.holdHost = true ∨ s.scan.holdReaction = true ∨ s.scan.holdQueue = true)) then some .line
          else if data.toNat < 0x20 ∨ 0x7E < data.toNat then some .badChar
          else if s.scan.count = 32 then some .long else none) →
        Runs (.scannerCharacter data framing) s fun t => PortStands s t
          ∧ t = { s with
              port := t.port
              scan := { s.scan with
                chars := if s.scan.chars.length < 32 then s.scan.chars ++ [data] else s.scan.chars, count := s.scan.count + 1
                fault := if s.scan.fault.isSome = true then s.scan.fault else met } })
    ∧ (s.scan.count = 0 → Runs (.scannerCharacter 0x0D false) s fun t => PortStands s t ∧ t = { s with port := t.port })
    ∧ (∀ f, s.scan.count ≠ 0 → s.scan.fault = some f →
        Runs (.scannerCharacter 0x0D false) s fun t => PortStands s t
          ∧ t = { s with
              port := t.port, scan := { s.scan with chars := [], count := 0, fault := none }
              mgmt := { s.mgmt with counters := { s.mgmt.counters with
                discardLine := if f = .line then satInc s.mgmt.counters.discardLine else s.mgmt.counters.discardLine
                discardChar := if f = .badChar then satInc s.mgmt.counters.discardChar else s.mgmt.counters.discardChar
                discardLong := if f = .long then satInc s.mgmt.counters.discardLong else s.mgmt.counters.discardLong } } })
    ∧ (s.scan.count ≠ 0 → s.scan.fault = none → s.scan.slot.isSome = true →
        Runs (.scannerCharacter 0x0D false) s fun t => PortStands s t
          ∧ t = { s with
              port := t.port, scan := { s.scan with chars := [], count := 0, finished := some s.scan.chars } })
    ∧ (s.scan.count ≠ 0 → s.scan.fault = none → s.scan.slot = none → s.scan.finished = none →
        exec (.scannerCharacter 0x0D false) s
          = exec .scanProcessing { s with scan := { s.scan with chars := [], count := 0, finished := some s.scan.chars } })

/-- Processing (R65, R69 to R73): the waiting frame is processed once the slot is empty. The SCAN report carries what the check digit, the
table and the winning entry make of the code, the counters count it, a rejected or blocked code raises its event, and only a WEIGHED code
of an OPEN sale with room makes a weigh request, which takes the first number not in use from the counter on (R43) and joins the tail of
the queue, or becomes head of an empty one, where a tare that is not there or a fault ends it at once with its report (R47, R48). -/
def Obligations.ScanProcessingReportsEveryFrame : Prop :=
  (∀ s : State, s.powered = true → s.scan.finished = none ∨ s.scan.slot.isSome = true →
    Runs .scanProcessing s fun t => PortStands s t ∧ t = { s with port := t.port })
  ∧ ∀ (s : State) (code : List Byte), s.powered = true → s.scan.finished = some code → s.scan.slot = none →
    ∀ (base : ScanReport) (u : State),
      base = ⟨code, .forwarded, some .ordinary, none, s.sales.currentNumber, none, none, none, ⟨false, false, false, false⟩,
        s.clock.laneTime⟩ →
      u = { s with
        scan := { s.scan with finished := none }
        mgmt := { s.mgmt with counters := { s.mgmt.counters with scans := satInc s.mgmt.counters.scans } } } →
      (isRetail code = false → Processed s u { base with itemClass := some .other })
      ∧ (isRetail code = true → checkDigitOk code = false →
          Processed s (raiseEvent .scanRejected { u with mgmt := { u.mgmt with counters := { u.mgmt.counters with
            rejectedScans := satInc s.mgmt.counters.rejectedScans } } }) { base with disposition := .rejected, itemClass := none })
      ∧ (isRetail code = true → checkDigitOk code = true →
          (s.mgmt.items.state ≠ .ready → Processed s u { base with flags := ⟨true, false, false, false⟩ })
          ∧ (s.mgmt.items.state = .ready → lookupItem code s.mgmt.items.entries none = none → Processed s u base)
          ∧ ∀ i e, s.mgmt.items.state = .ready → lookupItem code s.mgmt.items.entries none = some (i, e) →
              (e.itemClass = .ordinary → Processed s u { base with index := some i })
              ∧ (e.itemClass = .embedded → Processed s u { base with
                  index := some i, itemClass := some .embedded
                  embedded := some (e.fieldKind, (((code.drop (e.fieldStart - 1)).take e.fieldLength).map
                    fun b => b.toNat - 0x30).foldl (fun n d => 10 * n + d) 0) })
              ∧ (e.itemClass = .blocked → Processed s (raiseEvent .scanBlocked u)
                  { base with index := some i, itemClass := some .blocked, disposition := .blocked })
              ∧ (e.itemClass = .weighed →
                  ∀ r : ScanReport, r = { base with index := some i, itemClass := some .weighed, tareClass := some e.tareClass } →
                    ((∀ p, s.sales.current? = some p → p.2.state ≠ .opened) →
                      Processed s u { r with flags := ⟨false, true, false, false⟩ })
                    ∧ ∀ slot x, s.sales.current? = some (slot, x) → x.state = .opened →
                        (4 ≤ s.scale.queue.length + s.scale.outcomes.length →
                          Processed s u { r with flags := ⟨false, false, true, false⟩ })
                        ∧ (s.scale.queue.length + s.scale.outcomes.length < 4 →
                            (64 ≤ x.tokens.length + s.scale.queue.countP (fun q => q.sale == x.number) →
                              Processed s u { r with flags := ⟨false, false, false, true⟩ })
                            ∧ (x.tokens.length + s.scale.queue.countP (fun q => q.sale == x.number) < 64 →
                                ∃ n, (1 ≤ s.sales.nextToken → s.sales.nextToken ≤ 65535 → (numbersInUse s).length ≤ 200 → FirstUnused s n)
                                  ∧ ∀ (q : WeighRequest) (v : State) (y : ScanReport) (tared fault : Prop),
                                    q = ⟨n, slot, x.number, .scan, some code, e.tareClass, none⟩ →
                                    v = { u with sales := { s.sales with nextToken := nextNumber n } } →
                                    y = { r with token := some n } →
                                    (tared ↔ e.tareClass = 0 ∨ (s.mgmt.tares.state = .ready ∧ (s.mgmt.tares.at? e.tareClass).isSome = true)) →
                                    (fault ↔ s.scale.engine = .faultConverter ∨ s.scale.engine = .faultNotCalibrated) →
                                    (s.scale.queue ≠ [] → Processed s { v with scale := { s.scale with queue := s.scale.queue ++ [q] } } y)
                                    ∧ (s.scale.queue = [] → tared → ¬fault → Processed s { v with
                                        scale := { s.scale with queue := [{ q with headTime := some s.clock.laneTime }] }
                                        supply := { s.supply with quiet := s.supply.quiet || s.supply.prnGrant.isNone } } y)
                                    ∧ (s.scale.queue = [] → s.supply.quiet = false →
                                        (¬tared → ProcessedAndEnded s v y q .tareUnavailable)
                                        ∧ (tared → fault → ProcessedAndEnded s v y q .fault))))))

/-! ## Card swipes (05_card_swipe_decoding.md) -/

/-- Edges and the boundaries of a swipe (R77, R78, R79, R80): what an edge does in each capture state; 50 ms of quiet arm, and 20 ms end
the swipe, which takes its number and is lost behind a record that waits, or is decoded; before their times the rows change nothing
(log 4). -/
def Obligations.EdgesMakeSwipes : Prop :=
  ∀ (s : State) (gap : Nat), s.powered = true → gap = (s.clock.swipeClock - s.swipe.lastReversal).toNat →
    (s.swipe.capture = .held → Runs .swipeEdge s fun t => PortStands s t ∧ t = { s with port := t.port })
    ∧ (s.swipe.capture = .waiting → Runs .swipeEdge s fun t => PortStands s t
        ∧ t = { s with port := t.port, swipe := { s.swipe with lastReversal := s.clock.swipeClock } })
    ∧ (s.swipe.capture = .armed → Runs .swipeEdge s fun t => PortStands s t
        ∧ t = { s with port := t.port, swipe := { s.swipe with
            capture := .capturing, intervals := [], overflow := false, lastReversal := s.clock.swipeClock } })
    ∧ (s.swipe.capture = .capturing → Runs .swipeEdge s fun t => PortStands s t
        ∧ t = { s with port := t.port, swipe := { s.swipe with
            intervals := if s.swipe.intervals.length < 1200 then s.swipe.intervals ++ [gap] else s.swipe.intervals
            overflow := s.swipe.overflow || decide (1200 ≤ s.swipe.intervals.length), lastReversal := s.clock.swipeClock } })
    ∧ Runs .swipeArm s (fun t => PortStands s t
        ∧ t = { s with port := t.port, swipe := { s.swipe with
            capture := if s.swipe.capture = .waiting ∧ 50000 ≤ gap then .armed else s.swipe.capture } })
    ∧ (s.swipe.capture ≠ .capturing ∨ gap < 20000 → Runs .swipeEnd s fun t => PortStands s t ∧ t = { s with port := t.port })
    ∧ (s.swipe.capture = .capturing → 20000 ≤ gap →
        ∀ next : Nat, next = (s.swipe.counter + 1) % 65536 →
        (s.swipe.decodeBuffer.isSome = true → Runs .swipeEnd s fun t => PortStands s t
          ∧ t = { s with
              port := t.port, swipe := { s.swipe with capture := .waiting, counter := next }
              mgmt := { s.mgmt with counters := { s.mgmt.counters with swipesLost := satInc s.mgmt.counters.swipesLost } } })
        ∧ (s.swipe.decodeBuffer = none →
            ∀ (d : Decoding) (c : CardRecord) (u : State), d = decodeIntervals s.swipe.overflow s.swipe.intervals →
              c = ⟨s.swipe.counter, s.clock.laneTime, d.outcome, d.position, s.swipe.intervals.length, d.cell, d.direction, d.fields⟩ →
              u = { s with
                swipe := { s.swipe with capture := .waiting, counter := next, decodeBuffer := some c }
                mgmt := { s.mgmt with counters := { s.mgmt.counters with
                  swipesOk := if d.outcome = .ok then satInc s.mgmt.counters.swipesOk else s.mgmt.counters.swipesOk
                  swipesError := if d.outcome = .ok then s.mgmt.counters.swipesError
                    else satInc s.mgmt.counters.swipesError } } } →
              (s.swipe.reportBuffer.isSome = true → Runs .swipeEnd s fun t => PortStands s t ∧ t = { u with port := t.port })
              ∧ (s.swipe.reportBuffer = none → exec .swipeEnd s = exec .cardProcessing u)))

/-- A card drawn at a steady pace (R83 to R91): whatever digits stand on its track, split by a separator or not, decoding gives them back in
their fields with outcome OK, drawn forward, and drawn in reverse unless its LRC happens to read as a start sentinel backwards. -/
def Obligations.ASteadyDrawReadsBack : Prop :=
  ∀ (half lead trail : Nat) (values : List Nat) (fields : CardFields), 20 ≤ half → half ≤ 1000 → values.length ≤ 38 →
    (values ≠ [] ∧ (∀ v ∈ values, v ≤ 9) ∧ fields = ⟨some values, none, none, none, none⟩
      ∨ ∃ account rest : List Nat, values = account ++ 13 :: rest ∧ (∀ v ∈ account ++ rest, v ≤ 9)
          ∧ 12 ≤ account.length ∧ account.length ≤ 19
          ∧ fields = ⟨none, some account, if 4 ≤ rest.length then some (rest.take 4) else none,
              if 7 ≤ rest.length then some ((rest.drop 4).take 3) else none,
              some (rest.drop (if 7 ≤ rest.length then 7 else if 4 ≤ rest.length then 4 else 0))⟩) →
    decodeIntervals false (drawn half (List.replicate lead false ++ trackBits values ++ List.replicate trail false))
        = ⟨.ok, none, some (2 * half), some .forward, fields⟩
    ∧ (trackLrc values ≠ 10 →
        decodeIntervals false (drawn half (List.replicate lead false ++ (trackBits values).reverse ++ List.replicate trail false))
          = ⟨.ok, none, some (2 * half), some .reverse, fields⟩)

/-! ## Card rules (06_card_rules_and_masking.md) -/

/-- The account check (R96): it is made on every ACCOUNT of a record whose outcome is OK, whatever its class; from the right every second
digit is doubled, less 9 above 9, and the sum must be a multiple of 10. NUMBER has no check. The result is in the CARD report, a failure
leaves the outcome, and it attaches nothing and turns the event to CARD_ERROR.

Class and mask profile (R98): the key is the first six digits of ACCOUNT, or of a NUMBER of at least six; in a READY table the first
entry in index order whose range holds it gives class and profile number, and otherwise they are UNKNOWN and 0; a failed account check
does not prevent it. -/
def Obligations.TheAccountCheckAndTheCardClass : Prop :=
 (∀ (s : State) (c : CardRecord), s.powered = true → s.swipe.decodeBuffer = some c → s.swipe.reportBuffer = none →
    c.outcome = .ok →
    (c.fields.account = none → Runs .cardProcessing s fun t => ∃ r, t.cardTrail = s.cardTrail ++ [r] ∧ r.check = none)
    ∧ ∀ (a : List Nat) (passes : Prop), c.fields.account = some a →
        (passes ↔ ((List.range a.length).map fun k => if k % 2 = 0 then a.reverse.getD k 0
          else if 9 < 2 * a.reverse.getD k 0 then 2 * a.reverse.getD k 0 - 9 else 2 * a.reverse.getD k 0).sum % 10 = 0) →
        Runs .cardProcessing s fun t => ∃ r, t.cardTrail = s.cardTrail ++ [r] ∧ r.outcome = .ok
          ∧ (passes → r.check = some true ∧ r.flags.checkFailed = false ∧ t.mgmt = (raiseEvent .cardOk s).mgmt)
          ∧ (¬passes → r.check = some false ∧ r.flags.checkFailed = true ∧ r.attachment = .none ∧ t.sales = s.sales
              ∧ t.mgmt = (raiseEvent .cardError s).mgmt)) ∧
 (∀ (s : State) (c : CardRecord), s.powered = true → s.swipe.decodeBuffer = some c → s.swipe.reportBuffer = none →
    c.outcome = .ok → ∀ key : Option Nat,
    (∀ a, c.fields.account = some a → key = some ((a.take 6).foldl (fun n d => 10 * n + d) 0)) →
    (c.fields.account = none → key = (match c.fields.number with
      | some n => if n.length < 6 then none else some ((n.take 6).foldl (fun m d => 10 * m + d) 0)
      | none => none)) →
    (∀ (l rest : List (Nat × CardEntry)) (i k : Nat) (e : CardEntry), s.mgmt.cards.state = .ready → key = some k →
      s.mgmt.cards.entries = l ++ (i, e) :: rest → e.low ≤ k → k ≤ e.high → (∀ p ∈ l, k < p.2.low ∨ p.2.high < k) →
      Runs .cardProcessing s fun t => ∃ r, t.cardTrail = s.cardTrail ++ [r] ∧ r.cardClass = e.cardClass
        ∧ r.profile.map Prod.fst = some e.profile)
    ∧ (s.mgmt.cards.state ≠ .ready ∨ key = none ∨ (∃ k, key = some k ∧ ∀ p ∈ s.mgmt.cards.entries, k < p.2.low ∨ p.2.high < k) →
      Runs .cardProcessing s fun t => ∃ r, t.cardTrail = s.cardTrail ++ [r] ∧ r.cardClass = .unknown
        ∧ r.profile.map Prod.fst = some 0))

/-- The keep rule (R99, R100, R101, R104): a masked field keeps its length; its first and last digits stand as the profile gives, and every
other is a mark; so no ACCOUNT shows more clear digits than the profile keeps, and never more than ten. The CARD report of an OK record holds
each field as the profile applied gives it, ACCOUNT always masked, and says whether that profile is the fixed default.

What is masked leaves no trace (R101): two records that differ only in account digits that the profile masks, with the same key and the
same result of the check, leave the part in the same state. -/
def Obligations.MaskingKeepsOnlyTheEndsAndLeavesNoTrace : Prop :=
 ((∀ (first last : Nat) (digits : List Nat), (maskDigits first last digits).length = digits.length
    ∧ (∀ i, i < digits.length → (maskDigits first last digits)[i]? =
        some (if i < first ∨ digits.length - min last (digits.length - min first digits.length) ≤ i then digits[i]? else none))
    ∧ (maskDigits first last digits).countP Option.isSome ≤ first + last)
  ∧ (∀ (s : State) (c : CardRecord) (m : Masked), (∀ p ∈ s.mgmt.masks.entries, p.2.keepFirst + p.2.keepLast ≤ 10) →
      (cardReportOf s c).fields.account = some m → m.countP Option.isSome ≤ 10)
  ∧ ∀ (s : State) (c : CardRecord), s.powered = true → s.swipe.decodeBuffer = some c → s.swipe.reportBuffer = none →
    c.outcome = .ok → Runs .cardProcessing s fun t => ∃ r n, t.cardTrail = s.cardTrail ++ [r] ∧ r.profile.map Prod.fst = some n
      ∧ ∀ (m : MaskEntry) (fixed : Bool) (clear keep : List Nat → Masked),
          (∀ e, s.mgmt.masks.state = .ready → s.mgmt.masks.at? n = some e → m = e ∧ fixed = false) →
          (s.mgmt.masks.state ≠ .ready ∨ s.mgmt.masks.at? n = none → m = ⟨6, 4, false, false, false, false⟩ ∧ fixed = true) →
          (∀ d, clear d = d.map some) → (∀ d, keep d = maskDigits m.keepFirst m.keepLast d) →
          r.profile = some (n, fixed)
          ∧ r.fields.account = c.fields.account.map keep
          ∧ r.fields.number = c.fields.number.map (if m.numberClear then clear else keep)
          ∧ r.fields.expiry = (if m.expiryClear then c.fields.expiry.map clear else none)
          ∧ r.fields.service = (if m.serviceClear then c.fields.service.map clear else none)
          ∧ r.fields.discretionary = (if m.discretionaryClear then c.fields.discretionary.map clear else none)) ∧
 (∀ (s : State) (c : CardRecord) (a b : List Nat) (m : MaskEntry), s.powered = true → s.swipe.reportBuffer = none →
    m = (maskOf s.mgmt.masks (classOf s.mgmt.cards (some (decimal (a.take 6)))).2).1 →
    a.length = b.length → a.take (max 6 m.keepFirst) = b.take (max 6 m.keepFirst) →
    a.drop (a.length - m.keepLast) = b.drop (b.length - m.keepLast) → accountOk a = accountOk b →
    exec .cardProcessing { s with swipe := { s.swipe with
        decodeBuffer := some { c with fields := { c.fields with account := some a } } } }
      = exec .cardProcessing { s with swipe := { s.swipe with
        decodeBuffer := some { c with fields := { c.fields with account := some b } } } })

/-- Card processing (R93, R95, R102, R103, R104): a record that is not OK is reported with no field; a sound record of a payment, gift or
staff card joins the references of the lane's sale while there is room, and that of a loyalty card becomes its loyalty reference; nothing
else of the sale changes, the record leaves the decode buffer, and the event is raised. -/
def Obligations.CardProcessingReportsAndAttaches : Prop :=
  (∀ s : State, s.powered = true → s.swipe.decodeBuffer = none ∨ s.swipe.reportBuffer.isSome = true →
    Runs .cardProcessing s fun t => PortStands s t ∧ t = { s with port := t.port })
  ∧ ∀ (s : State) (c : CardRecord), s.powered = true → s.swipe.decodeBuffer = some c → s.swipe.reportBuffer = none →
    ∃ (t : State) (r : CardReport), exec .cardProcessing s = .next t ∧ t.cardTrail = s.cardTrail ++ [r]
      ∧ (r.swipe, r.endTime, r.time, r.outcome, r.position, r.count, r.cell, r.direction, r.sale)
          = (c.swipe, c.endTime, s.clock.laneTime, c.outcome, c.position, c.count, c.cell, c.direction, s.sales.currentNumber)
      ∧ (∀ (sound : Prop) (u : State), (sound ↔ c.outcome = .ok ∧ ∀ a, c.fields.account = some a → accountOk a = true) →
          (sound → u = raiseEvent .cardOk s) → (¬sound → u = raiseEvent .cardError s) →
          t = { u with
            port := t.port, sales := t.sales
            swipe := { u.swipe with decodeBuffer := none, reportBuffer := t.swipe.reportBuffer } }
          ∧ (c.outcome ≠ .ok → r.cardClass = .unknown ∧ r.profile = none ∧ r.fields = ⟨none, none, none, none, none⟩ ∧ r.check = none)
          ∧ (¬sound ∨ r.cardClass = .unknown ∨ s.sales.current? = none →
              t.sales = s.sales ∧ r.attachment = .none ∧ r.refIndex = none ∧ r.flags.refsFull = false ∧ r.flags.replaced = false)
          ∧ ∀ slot x n, sound → s.sales.current? = some (slot, x) → r.profile.map Prod.fst = some n →
              ∀ masked : Masked, masked = (match r.fields.account with
                | some m => m
                | none => r.fields.number.getD []) →
              (r.cardClass = .payment ∨ r.cardClass = .gift ∨ r.cardClass = .staff →
                (x.refs.length < 4 → r.attachment = .cardReference ∧ r.refIndex = some (x.refs.length + 1)
                  ∧ t.sales = s.sales.put slot (some { x with
                      refs := x.refs ++ [⟨c.swipe, r.cardClass, n, masked, r.fields.expiry⟩] }))
                ∧ (4 ≤ x.refs.length → r.attachment = .none ∧ r.refIndex = none ∧ r.flags.refsFull = true ∧ t.sales = s.sales))
              ∧ (r.cardClass = .loyalty → r.attachment = .loyalty ∧ r.refIndex = none ∧ r.flags.replaced = x.loyalty.isSome
                  ∧ t.sales = s.sales.put slot (some { x with loyalty := some ⟨c.swipe, n, masked⟩ })))

/-! ## Sales (07_sales.md) -/

/-- Open Sale (R106, R107, R110): refused STATE, NO_ROOM or BUSY in that order; otherwise the lower free slot takes a new sale with the
next number that the other slot does not hold, the SALE report joins the trail, and nothing but the port and the Sale table changes. A
sale alone has the print turn; beside a FIRST sale that is not CLOSED that one has it. That a sale opened beside a CLOSED FIRST has it at
once is the model's choice (log 17).

Release Sale (R122, R107), with its tests in order: the slot of a CLOSED sale that the drawer does not serve goes FREE, the other
sale becomes FIRST, and the SALE report carries the figures the sale held. The print turn is at the slot left, unless its sale, CLOSED
too, never had it: that no slot has it then is the model's choice (log 17). -/
def Obligations.SalesOpenAndRelease : Prop :=
 (∀ (tag : Byte) (s : State), Ready s →
    (s.sales.current?.isSome = true → OnlyAnswers (.openSale tag) s .state .empty)
    ∧ (s.sales.current? = none → s.sales.slot0.isSome = true → s.sales.slot1.isSome = true → OnlyAnswers (.openSale tag) s .noRoom .empty)
    ∧ (s.sales.current? = none → s.sales.slot0 = none ∨ s.sales.slot1 = none → 6 ≤ s.sales.reports.length →
        OnlyAnswers (.openSale tag) s .busy .empty)
    ∧ ∀ slot number, s.sales.current? = none → s.sales.slot0 = none ∨ s.sales.slot1 = none → s.sales.reports.length < 6 →
        slot = (if s.sales.slot0 = none then 0 else 1) →
        number = (if (s.sales.at? (1 - slot)).map Sale.number = some s.sales.nextSale then nextNumber s.sales.nextSale
          else s.sales.nextSale) →
        Performs (.openSale tag) s .ok (.opened number slot) fun t =>
          t = { s with port := t.port, sales := t.sales }
          ∧ t.sales.at? slot = some ⟨number, .opened, (s.sales.at? (1 - slot)).isNone, 0, [], [], [], none, false, 0, false⟩
          ∧ t.sales.at? (1 - slot) = s.sales.at? (1 - slot)
          ∧ t.sales.nextSale = nextNumber number ∧ t.sales.nextToken = s.sales.nextToken
          ∧ (s.sales.at? (1 - slot) = none → t.sales.turn? = some slot)
          ∧ (∀ y, s.sales.at? (1 - slot) = some y → y.first = true →
              t.sales.turn? = some (if y.state = .closed then slot else 1 - slot))
          ∧ ∃ x, t.sales.at? slot = some x ∧ t.saleTrail = s.saleTrail ++ [saleReportOf t slot x .free .openSale]) ∧
 (∀ (tag : Byte) (sale : BitVec 16) (s : State), Ready s →
    (s.sales.find? sale.toNat = none → OnlyAnswers (.releaseSale tag sale) s .noSale .empty)
    ∧ ∀ slot x, s.sales.find? sale.toNat = some (slot, x) →
        (x.state ≠ .closed → OnlyAnswers (.releaseSale tag sale) s .state .empty)
        ∧ ∀ served : Prop, x.state = .closed →
            (served ↔ (∃ p, s.drawer.permit = some (.tender x.number p)) ∧
              s.drawer.state ∈ [DrawerState.waitGrant, .pulsing, .confirming, .opened, .overdue]) →
            (served → OnlyAnswers (.releaseSale tag sale) s .drawer .empty)
            ∧ (¬served →
                (6 ≤ s.sales.reports.length → OnlyAnswers (.releaseSale tag sale) s .busy .empty)
                ∧ (s.sales.reports.length < 6 → Performs (.releaseSale tag sale) s .ok .empty fun t =>
                    t = { s with port := t.port, sales := t.sales }
                    ∧ t.sales.at? slot = none
                    ∧ t.sales.at? (1 - slot) = (s.sales.at? (1 - slot)).map (fun y => { y with first := true })
                    ∧ t.sales.nextSale = s.sales.nextSale ∧ t.sales.nextToken = s.sales.nextToken
                    ∧ (s.sales.at? (1 - slot) = none → t.sales.turn? = none)
                    ∧ (∀ y, s.sales.at? (1 - slot) = some y → y.state ≠ .closed ∨ x.first = true →
                        t.sales.turn? = some (1 - slot))
                    ∧ (∀ y, s.sales.at? (1 - slot) = some y → y.state = .closed → x.first = false → t.sales.turn? = none)
                    ∧ t.saleTrail = s.saleTrail ++ [saleReportOf s slot { x with state := .free } .closed .releaseSale])))

/-- Set Due (R111) and Void Token (R119), with their tests in order: an accepted one changes the amount due of its sale, or the state of
its token, and nothing else; no report is formed. -/
def Obligations.SetDueAndVoidTokenEditTheirSaleAlone : Prop :=
  (∀ (tag : Byte) (sale : BitVec 16) (amount : BitVec 32) (s : State), Ready s →
    (s.sales.find? sale.toNat = none → OnlyAnswers (.setDue tag sale amount) s .noSale .empty)
    ∧ ∀ slot x, s.sales.find? sale.toNat = some (slot, x) →
        (x.state ≠ .opened → x.state ≠ .tendering → OnlyAnswers (.setDue tag sale amount) s .state .empty)
        ∧ (x.state = .opened ∨ x.state = .tendering →
            (99999999 < amount.toNat → OnlyAnswers (.setDue tag sale amount) s .badArg .empty)
            ∧ (amount.toNat ≤ 99999999 → Performs (.setDue tag sale amount) s .ok .empty fun t => NoReport s t
                ∧ t = { s with port := t.port, sales := s.sales.put slot (some { x with due := amount.toNat }) })))
  ∧ ∀ (tag : Byte) (sale token : BitVec 16) (s : State), Ready s →
    (s.sales.find? sale.toNat = none → OnlyAnswers (.voidToken tag sale token) s .noSale .empty)
    ∧ ∀ slot x, s.sales.find? sale.toNat = some (slot, x) →
        (x.state ≠ .opened → x.state ≠ .tendering → OnlyAnswers (.voidToken tag sale token) s .state .empty)
        ∧ (x.state = .opened ∨ x.state = .tendering →
            (x.token? token.toNat = none → OnlyAnswers (.voidToken tag sale token) s .badToken .empty)
            ∧ ∀ k, x.token? token.toNat = some k →
                (k.state = .voided → OnlyAnswers (.voidToken tag sale token) s .badToken .empty)
                ∧ (k.state = .queued ∨ k.state = .printing ∨ k.state = .printed →
                    OnlyAnswers (.voidToken tag sale token) s .printed .empty)
                ∧ (k.state = .captured → Performs (.voidToken tag sale token) s .ok .empty fun t => NoReport s t
                    ∧ t = { s with port := t.port, sales := s.sales.put slot (some (x.setToken token.toNat .voided)) }))

/-- Begin Tender (R112) and Resume Sale (R113), with their tests in order: an accepted one moves its sale between OPEN and TENDERING,
with a SALE report, and nothing else of the lane changes.

Settle (R116), with its tests in order: the tenders less their changes must equal the amount due; the sale then becomes SETTLED with
its SALE report, and the event SALE_SETTLED is raised. -/
def Obligations.TenderingBeginsResumesAndSettles : Prop :=
 ((∀ (tag : Byte) (sale : BitVec 16) (s : State), Ready s →
    (s.sales.find? sale.toNat = none → OnlyAnswers (.beginTender tag sale) s .noSale .empty)
    ∧ ∀ slot x, s.sales.find? sale.toNat = some (slot, x) →
        (x.state ≠ .opened → OnlyAnswers (.beginTender tag sale) s .state .empty)
        ∧ (x.state = .opened →
            ((∃ r ∈ s.scale.queue, r.sale = x.number) → OnlyAnswers (.beginTender tag sale) s .pendingWeigh .empty)
            ∧ ((∀ r ∈ s.scale.queue, r.sale ≠ x.number) →
                (6 ≤ s.sales.reports.length → OnlyAnswers (.beginTender tag sale) s .busy .empty)
                ∧ (s.sales.reports.length < 6 → Performs (.beginTender tag sale) s .ok .empty fun t =>
                    t = { s with
                      port := t.port
                      sales := { s.sales.put slot (some { x with state := .tendering }) with reports := t.sales.reports } }
                    ∧ t.saleTrail =
                        s.saleTrail ++ [saleReportOf t slot { x with state := .tendering } .opened .beginTender]))))
  ∧ ∀ (tag : Byte) (sale : BitVec 16) (s : State), Ready s →
    (s.sales.find? sale.toNat = none → OnlyAnswers (.resumeSale tag sale) s .noSale .empty)
    ∧ ∀ slot x, s.sales.find? sale.toNat = some (slot, x) →
        (x.state ≠ .tendering ∨ x.tenders ≠ [] → OnlyAnswers (.resumeSale tag sale) s .state .empty)
        ∧ (x.state = .tendering → x.tenders = [] →
            (6 ≤ s.sales.reports.length → OnlyAnswers (.resumeSale tag sale) s .busy .empty)
            ∧ (s.sales.reports.length < 6 → Performs (.resumeSale tag sale) s .ok .empty fun t =>
                t = { s with
                  port := t.port
                  sales := { s.sales.put slot (some { x with state := .opened }) with reports := t.sales.reports } }
                ∧ t.saleTrail = s.saleTrail ++ [saleReportOf t slot { x with state := .opened } .tendering .resumeSale]))) ∧
 (∀ (tag : Byte) (sale : BitVec 16) (s : State), Ready s →
    (s.sales.find? sale.toNat = none → OnlyAnswers (.settle tag sale) s .noSale .empty)
    ∧ ∀ slot x, s.sales.find? sale.toNat = some (slot, x) →
        (x.state ≠ .tendering → OnlyAnswers (.settle tag sale) s .state .empty)
        ∧ ∀ balance : Int, x.state = .tendering →
            balance = ((x.tenders.map Tender.amount).sum : Int) - ((x.tenders.map Tender.change).sum : Int) →
            (balance ≠ x.due → OnlyAnswers (.settle tag sale) s .balance (.balance balance x.due))
            ∧ (balance = x.due →
                (6 ≤ s.sales.reports.length → OnlyAnswers (.settle tag sale) s .busy .empty)
                ∧ (s.sales.reports.length < 6 → Performs (.settle tag sale) s .ok .empty fun t =>
                    t = { raiseEvent .saleSettled s with
                      port := t.port
                      sales := { s.sales.put slot (some { x with state := .settled }) with reports := t.sales.reports } }
                    ∧ t.saleTrail =
                        s.saleTrail ++ [saleReportOf t slot { x with state := .settled } .tendering .settle])))

/-- Add Tender (R114) and Withdraw Tender (R115), with their tests in order: a tender joins the end of the list with its permit, or the
last one leaves it unless its permit is USED; nothing else changes. -/
def Obligations.TendersJoinAndLeaveAtTheEnd : Prop :=
  (∀ (tag : Byte) (sale : BitVec 16) (kind : Byte) (amount change : BitVec 32) (ref : Byte) (s : State), Ready s →
    (s.sales.find? sale.toNat = none → OnlyAnswers (.addTender tag sale kind amount change ref) s .noSale .empty)
    ∧ ∀ slot x, s.sales.find? sale.toNat = some (slot, x) →
        (x.state ≠ .tendering → OnlyAnswers (.addTender tag sale kind amount change ref) s .state .empty)
        ∧ (x.state = .tendering →
            (2 < kind.toNat → OnlyAnswers (.addTender tag sale kind amount change ref) s .badArg .empty)
            ∧ ∀ k, (kind.toNat, k) ∈ [(0, TenderKind.cash), (1, .card), (2, .voucher)] →
                ∀ named, named = (if ref = 0xFF then none else some ref.toNat) →
                (¬TenderArgumentsOk s x k amount.toNat change.toNat named →
                  OnlyAnswers (.addTender tag sale kind amount change ref) s .badArg .empty)
                ∧ (TenderArgumentsOk s x k amount.toNat change.toNat named →
                    (8 ≤ x.tenders.length → OnlyAnswers (.addTender tag sale kind amount change ref) s .noRoom .empty)
                    ∧ (x.tenders.length < 8 → ∀ y, y = { x with
                          tenders := x.tenders ++ [⟨k, amount.toNat, change.toNat, named,
                            if k = .cash ∨ 0 < change.toNat then .unused else .none⟩] } →
                        Performs (.addTender tag sale kind amount change ref) s .ok
                          (.tender (x.tenders.length + 1) y.granted) fun t => NoReport s t
                            ∧ t = { s with port := t.port, sales := s.sales.put slot (some y) }))))
  ∧ ∀ (tag : Byte) (sale : BitVec 16) (s : State), Ready s →
    (s.sales.find? sale.toNat = none → OnlyAnswers (.withdrawTender tag sale) s .noSale .empty)
    ∧ ∀ slot x, s.sales.find? sale.toNat = some (slot, x) →
        (x.state ≠ .tendering ∨ x.tenders = [] → OnlyAnswers (.withdrawTender tag sale) s .state .empty)
        ∧ ∀ l last, x.state = .tendering → x.tenders = l ++ [last] →
            (last.permit = .used → OnlyAnswers (.withdrawTender tag sale) s .drawer .empty)
            ∧ (last.permit ≠ .used → Performs (.withdrawTender tag sale) s .ok
                (.small (l.countP fun y => y.permit == .unused || y.permit == .used)) fun t => NoReport s t
                  ∧ t = { s with port := t.port, sales := s.sales.put slot (some { x with tenders := l }) })

/-- Abort Sale (R121), with its tests in order: the sale's references are discarded, its tokens on their way to the paper are VOIDED, its
line records are gone, its waiting requests end CANCELLED in queue order, and it becomes ABORTING if a line has been printed and CLOSED
otherwise, with its SALE report; all else of the sale stands, and so do the counters of sale and token numbers, the engine of the scale with
its zero and its windows, the readings of the printer, the budget and, unless a solenoid waits, the drawer. In the printer (R153) every active overlay of a
sale that holds the print turn is removed, a line in production keeps its dots, and the other slot's list stands, unless an engine with
nothing in production takes up that slot's work (log 31): then more of its OVERLAY records become active, a record may be begun, and of its
sale at most the line printed flag and the tokens whose bands begin change. -/
def Obligations.AbortSaleDiscardsWhatWasNotPrinted : Prop :=
  ∀ (tag : Byte) (sale : BitVec 16) (s : State), Ready s →
    (s.sales.find? sale.toNat = none → OnlyAnswers (.abortSale tag sale) s .noSale .empty)
    ∧ ∀ slot x, s.sales.find? sale.toNat = some (slot, x) →
        ((x.state ≠ .opened ∧ x.state ≠ .tendering) ∨ x.tenders ≠ [] → OnlyAnswers (.abortSale tag sale) s .state .empty)
        ∧ (x.state = .opened ∨ x.state = .tendering → x.tenders = [] →
            (6 ≤ s.sales.reports.length → OnlyAnswers (.abortSale tag sale) s .busy .empty)
            ∧ (s.sales.reports.length < 6 → Performs (.abortSale tag sale) s .ok .empty fun t =>
                t = { s with
                  port := t.port, scale := { s.scale with queue := t.scale.queue, outcomes := t.scale.outcomes }
                  sales := { s.sales with slot0 := t.sales.slot0, slot1 := t.sales.slot1, reports := t.sales.reports }
                  drawer := { s.drawer with
                    state := t.drawer.state, openedMark := t.drawer.openedMark, pulseEnd := t.drawer.pulseEnd }
                  printer := { s.printer with
                    engine := t.printer.engine, cause := t.printer.cause, resume := t.printer.resume, lines0 := t.printer.lines0
                    lines1 := t.printer.lines1, overlays := t.printer.overlays, line := t.printer.line, feed := t.printer.feed
                    cutSale := t.printer.cutSale, awaySeen := t.printer.awaySeen }
                  supply := { s.supply with
                    solRequest := t.supply.solRequest, solGrant := t.supply.solGrant, prnRequest := t.supply.prnRequest
                    prnGrant := t.supply.prnGrant, quiet := t.supply.quiet } }
                ∧ (s.supply.solRequest = none →
                    t.drawer = s.drawer ∧ t.supply.solRequest = none ∧ t.supply.solGrant = s.supply.solGrant)
                ∧ (∃ y, t.sales.at? slot = some y
                    ∧ y = { x with
                        state := if x.linePrinted then .aborting else .closed, aborted := true, refs := [], loyalty := none
                        tokens := x.tokens.map fun k =>
                          if k.state = .queued ∨ k.state = .printing then { k with state := .voided } else k }
                    ∧ ∃ r, t.saleTrail = s.saleTrail ++ [r] ∧ r.sale = x.number ∧ r.slot = slot ∧ r.newState = y.state
                      ∧ r.previous = x.state ∧ r.cause = .abortSale ∧ r.time = s.clock.laneTime)
                ∧ t.scale.queue.map WeighRequest.number
                    <:+ (s.scale.queue.filter fun r => r.sale != x.number).map WeighRequest.number
                ∧ (s.weightTrail ++ (s.scale.queue.filter fun r => r.sale == x.number).map
                    (fun r => weightReportOf s r .cancelled none)) <+: t.weightTrail
                ∧ t.printer.lines slot = [] ∧ PrinterShown s t
                ∧ (∀ l, s.printer.line = some l → ∃ m, t.printer.line = some m ∧ m.slot = l.slot ∧ m.cutFeed = l.cutFeed
                    ∧ m.dots = l.dots)
                ∧ ∀ (free : Prop) (kept : List Overlay),
                    (free ↔ (s.printer.engine = .idle ∨ s.printer.engine = .printing) ∧ s.printer.line = none
                      ∧ s.supply.prnRequest = none ∧ s.supply.prnGrant = none) →
                    kept = (if s.sales.turn? = some slot then [] else s.printer.overlays) →
                    (¬free ∨ t.sales.turn? ≠ some (1 - slot) →
                      t.printer.overlays = kept ∧ t.printer.lines (1 - slot) = s.printer.lines (1 - slot)
                        ∧ t.sales.at? (1 - slot) = s.sales.at? (1 - slot))
                    ∧ (s.sales.at? (1 - slot) = none → t.sales.at? (1 - slot) = none)
                    ∧ (∀ y, s.sales.at? (1 - slot) = some y → ∃ z, t.sales.at? (1 - slot) = some z
                        ∧ z = { y with linePrinted := z.linePrinted, tokens := z.tokens } ∧ (y.linePrinted = true → z.linePrinted = true)
                        ∧ z.tokens.length = y.tokens.length
                        ∧ ∀ p ∈ y.tokens.zip z.tokens, p.2 = p.1 ∨ (p.1.state = .queued ∧ p.2 = { p.1 with state := .printing }))
                    ∧ ∃ taken left fresh, s.printer.lines (1 - slot) = taken ++ left
                        ∧ (t.printer.lines (1 - slot) = left ∨ t.printer.lines (1 - slot) = beginRecord left)
                        ∧ t.printer.overlays = kept ++ fresh ∧ fresh.length = taken.length
                        ∧ ∀ p ∈ taken.zip fresh, p.1 = .overlay p.2.token p.2.start p.2.format ∧ p.2.remaining = 24))

/-- Get Sale (R123): out of its arguments it is refused BAD_ARG; otherwise it answers the part asked for, or the state FREE alone, and
changes nothing. How many tokens fit rests on their size in a response (log 21, the model's choice). -/
def Obligations.GetSaleReadsOnePart : Prop :=
  ∀ (tag slot part : Byte) (start : Option Byte) (s : State), Ready s →
    (1 < slot.toNat ∨ 3 < part.toNat ∨ (part.toNat = 2 ∧ ∀ n, start = some n → n.toNat = 0 ∨ 64 < n.toNat) →
      OnlyAnswers (.getSale tag slot part start) s .badArg .empty)
    ∧ (slot.toNat ≤ 1 → part.toNat ≠ 2 ∧ part.toNat ≤ 3 ∨ part.toNat = 2 ∧ (∃ n, start = some n ∧ 1 ≤ n.toNat ∧ n.toNat ≤ 64) →
        (s.sales.at? slot.toNat = none → OnlyAnswers (.getSale tag slot part start) s .ok .freeSlot)
        ∧ ∀ x, s.sales.at? slot.toNat = some x →
            (part.toNat = 0 → OnlyAnswers (.getSale tag slot part start) s .ok
              (.summary x.state x.number x.first (x.summary (s.sales.turn? == some slot.toNat))))
            ∧ (part.toNat = 1 → OnlyAnswers (.getSale tag slot part start) s .ok (.tenders x.tenders))
            ∧ (part.toNat = 3 → OnlyAnswers (.getSale tag slot part start) s .ok (.references x.refs x.loyalty))
            ∧ ∀ n, part.toNat = 2 → start = some n → ∃ l, OnlyAnswers (.getSale tag slot part start) s .ok (.tokens l)
                ∧ l.length ≤ 8 ∧ l <+: x.tokens.drop (n.toNat - 1) ∧ (l.map Token.size).sum ≤ 238
                ∧ (l.length < 8 → ∀ k rest, x.tokens.drop (n.toNat - 1) = l ++ k :: rest → 238 < (l.map Token.size).sum + k.size))

/-! ## The cash drawer (08_the_cash_drawer.md) -/

/-- Open Drawer and its no-sale form (R117, R127 to R129), with their tests in order: for a sale the last tender whose permit is UNUSED
takes it USED and its position is answered; a no-sale opening is counted; the drawer asks for the solenoid at attempt 1, and nothing else
changes but what the arbiter then does for the printer. -/
def Obligations.OpeningsTakeThePermitAndAsk : Prop :=
  (∀ (tag : Byte) (sale : BitVec 16) (s : State) (able : Prop), Ready s → sale ≠ 0 →
    (able ↔ ∃ slot x, s.sales.find? sale.toNat = some (slot, x)
      ∧ x.state ∈ [SaleState.tendering, .settled, .closing, .closed] ∧ ∃ y ∈ x.tenders, y.permit = .unused) →
    (¬able → OnlyAnswers (.openDrawer tag sale) s .drawer .empty)
    ∧ (able → s.drawer.state ≠ .closed ∨ 4 ≤ s.drawer.reports.length → OnlyAnswers (.openDrawer tag sale) s .busy .empty)
    ∧ (able → s.drawer.state = .closed → s.drawer.reports.length < 4 →
        ∀ slot x l y rest, s.sales.find? sale.toNat = some (slot, x) → x.tenders = l ++ y :: rest → y.permit = .unused →
          (∀ z ∈ rest, z.permit ≠ .unused) →
          Performs (.openDrawer tag sale) s .ok (.small (l.length + 1)) fun t =>
            Asked s t ∧ t.drawerTrail = s.drawerTrail
            ∧ t.drawer.permit = some (.tender sale.toNat (l.length + 1)) ∧ t.drawer.attempt = some 1
            ∧ (t.sales.at? slot).map Sale.tenders = some (l ++ { y with permit := .used } :: rest)
            ∧ (s.printer.line = none →
                t.sales = s.sales.put slot (some { x with tenders := l ++ { y with permit := .used } :: rest }))
            ∧ t = { s with
                port := t.port, sales := t.sales, supply := t.supply, printer := t.printer
                drawer := { s.drawer with
                  state := t.drawer.state, permit := t.drawer.permit, attempt := t.drawer.attempt
                  openedMark := t.drawer.openedMark, pulseEnd := t.drawer.pulseEnd } }))
  ∧ ∀ (tag : Byte) (s : State), Ready s →
    (s.mgmt.params.noSaleAllowed ≠ 1 ∨ (∃ p, s.sales.current? = some p ∧ p.2.state = .tendering) →
      OnlyAnswers (.openDrawerNoSale tag) s .drawer .empty)
    ∧ (s.mgmt.params.noSaleAllowed = 1 → (∀ p, s.sales.current? = some p → p.2.state ≠ .tendering) →
        (s.drawer.state ≠ .closed ∨ 4 ≤ s.drawer.reports.length → OnlyAnswers (.openDrawerNoSale tag) s .busy .empty)
        ∧ (s.drawer.state = .closed → s.drawer.reports.length < 4 →
            Performs (.openDrawerNoSale tag) s .ok .empty fun t =>
              Asked s t ∧ t.drawerTrail = s.drawerTrail ∧ t.drawer.permit = some .noSale ∧ t.drawer.attempt = some 1
              ∧ (s.printer.line = none → t.sales = s.sales)
              ∧ t = { s with
                  port := t.port, sales := t.sales, supply := t.supply, printer := t.printer
                  mgmt := { s.mgmt with counters := { s.mgmt.counters with noSaleOpens := satInc s.mgmt.counters.noSaleOpens } }
                  drawer := { s.drawer with
                    state := t.drawer.state, permit := t.drawer.permit, attempt := t.drawer.attempt
                    openedMark := t.drawer.openedMark, pulseEnd := t.drawer.pulseEnd } }))

/-- The pulse end, the confirmation deadline and the overdue test (R4, R117, R130 to R132, R157), each at its time and not before (log 4):
the pulse releases the solenoid, starts shock hold and opens or confirms, a pending budget then takes effect with the waiting CUTTER or
MOTOR request formed anew (R158, log 39), and a line that waits is packed again (R164, R166); the deadline asks again, or at attempt 2 jams and gives the
permit back; an open drawer becomes OVERDUE. -/
def Obligations.TheOpeningRunsItsCourse : Prop :=
  (∀ (s : State) (due : Prop), s.powered = true →
    (due ↔ s.drawer.state = .pulsing ∧ (s.clock.laneTime - s.drawer.pulseEnd).toNat < 2147483648) →
    (¬due → Runs .drawerPulseEnd s fun t => PortStands s t ∧ t = { s with port := t.port })
    ∧ (due → s.supply.solRequest = none → Runs .drawerPulseEnd s fun t =>
        t.supply.solGrant = none ∧ t.supply.solRequest = none
        ∧ t.scale = { s.scale with
            shockEnd := some (s.clock.laneTime + 300), disturbed := s.scale.disturbed || s.clock.inWindow }
        ∧ (∀ b, s.supply.pendingBudget = some b → s.supply.prnGrant = none → t.supply.budget = b ∧ t.supply.pendingBudget = none)
        ∧ (s.supply.pendingBudget = none ∨ s.supply.prnGrant.isSome = true →
            t.supply.budget = s.supply.budget ∧ t.supply.pendingBudget = s.supply.pendingBudget)
        ∧ (∀ u : State, u = { s with drawer := t.drawer, supply := { s.supply with solGrant := none } } →
            (∀ b, s.supply.pendingBudget = some b → s.supply.prnGrant = none → b ≠ s.supply.budget →
              ∃ x, t.supply = x.supply ∧ t.printer = x.printer ∧ Repacked (budgetTaken b u) x)
            ∧ (s.supply.pendingBudget = none ∨ s.supply.prnGrant.isSome = true →
              ∃ x, t.supply = x.supply ∧ t.printer = x.printer ∧ Repacked (allowanceFormed u) x))
        ∧ (s.drawer.openedMark = false → t.drawerTrail = s.drawerTrail ∧ t.mgmt = s.mgmt
            ∧ t.drawer = { s.drawer with state := .confirming, deadline := s.clock.laneTime + 500 })
        ∧ (s.drawer.openedMark = true → Opened s t false)
        ∧ t.clock = s.clock ∧ t.store = s.store
        ∧ ∃ q, t.port.shows (.drawerState q) ∧ q.state = t.drawer.state))
  ∧ (∀ (s : State) (due : Prop), s.powered = true →
    (due ↔ s.drawer.state = .confirming ∧ (s.clock.laneTime - s.drawer.deadline).toNat < 2147483648) →
    (¬due → Runs .confirmationDeadline s fun t => PortStands s t ∧ t = { s with port := t.port })
    ∧ (due → s.drawer.attempt = some 1 → Runs .confirmationDeadline s fun t =>
        Asked s t ∧ t.drawerTrail = s.drawerTrail ∧ t.drawer.attempt = some 2 ∧ t.drawer.permit = s.drawer.permit
        ∧ (s.printer.line = none → t.sales = s.sales)
        ∧ t = { s with
            port := t.port, sales := t.sales, supply := t.supply, printer := t.printer
            drawer := { s.drawer with
              state := t.drawer.state, attempt := t.drawer.attempt, openedMark := t.drawer.openedMark
              pulseEnd := t.drawer.pulseEnd } })
    ∧ (due → s.drawer.attempt ≠ some 1 → Runs .confirmationDeadline s fun t =>
        t.drawerTrail = s.drawerTrail ++ [⟨.jammed, s.clock.laneTime, servedSale s.drawer.permit, servedPosition s.drawer.permit,
          s.drawer.attempt, false, false⟩]
        ∧ (s.drawer.permit = some .noSale → t.sales = s.sales)
        ∧ (∀ sale position slot x y, s.drawer.permit = some (.tender sale position) → s.sales.find? sale = some (slot, x) →
            x.tenders[position - 1]? = some y → y.permit = .used →
            t.sales = s.sales.put slot (some { x with tenders := x.tenders.set (position - 1) { y with permit := .unused } }))
        ∧ (∀ u, u = raiseEvent .drawerJammed s → t = { u with
            port := t.port, sales := t.sales
            drawer := { s.drawer with state := .closed, permit := none, attempt := none, reports := t.drawer.reports }
            mgmt := { u.mgmt with counters := { u.mgmt.counters with jams := satInc s.mgmt.counters.jams } } })
        ∧ ∃ q, t.port.shows (.drawerState q) ∧ q.state = .closed ∧ q.permit = none))
  ∧ ∀ (s : State) (due : Prop), s.powered = true →
    (due ↔ s.drawer.state = .opened ∧ s.mgmt.params.drawerLeftOpenS ≠ 0
      ∧ s.mgmt.params.drawerLeftOpenS * 1000 ≤ (s.clock.laneTime - s.drawer.openTime).toNat) →
    (¬due → Runs .drawerOverdue s fun t => PortStands s t ∧ t = { s with port := t.port })
    ∧ (due → Runs .drawerOverdue s fun t =>
        t.drawerTrail = s.drawerTrail ++ [⟨.overdue, s.clock.laneTime, servedSale s.drawer.permit, servedPosition s.drawer.permit,
          none, false, false⟩]
        ∧ (∀ u, u = raiseEvent .drawerOverdue s → t = { u with
            port := t.port, drawer := { s.drawer with state := .overdue, reports := t.drawer.reports } })
        ∧ ∃ q, t.port.shows (.drawerState q) ∧ q.state = .overdue)

/-- The sense switch (R126, R129 to R133): a change is taken by the rule of the state that the drawer is in, with its report, its event and
its shock hold, or is held back while it would form a report and the list holds 8; a change held back is taken once the list has room. -/
def Obligations.TheSenseSwitchActsByTheState : Prop :=
  (∀ (level : SenseLevel) (s u : State) (forms : Prop), s.powered = true →
    u = { s with inputs := { s.inputs with sense := level } } →
    (forms ↔ (level = .opened ∧ s.drawer.state ∈ [DrawerState.closed, .waitGrant, .confirming])
      ∨ (level = .closed ∧ s.drawer.state ∈ [DrawerState.opened, .overdue, .forcedOpen])) →
    (s.drawer.deferred = true ∨ s.drawer.sense = level →
      Runs (.drawerSenseChange level) s fun t => PortStands s t ∧ t = { u with port := t.port })
    ∧ (s.drawer.deferred = false → s.drawer.sense ≠ level →
        (forms → 8 ≤ s.drawer.reports.length →
          Runs (.drawerSenseChange level) s fun t => PortStands s t
            ∧ t = { u with port := t.port, drawer := { s.drawer with deferred := true } })
        ∧ (¬forms → Runs (.drawerSenseChange level) s fun t => PortStands s t
            ∧ t = { u with
                port := t.port
                drawer := { s.drawer with
                  sense := level
                  openedMark := if s.drawer.state = .pulsing then level == .opened else s.drawer.openedMark } })
        ∧ (forms → s.drawer.reports.length < 8 →
            (s.drawer.state = .closed → Runs (.drawerSenseChange level) s fun t =>
              t.drawerTrail = s.drawerTrail ++ [⟨.forced, s.clock.laneTime, servedSale s.drawer.permit, servedPosition s.drawer.permit,
                none, true, false⟩]
              ∧ t = { u with
                  port := t.port
                  drawer := { s.drawer with
                    sense := level, state := .forcedOpen, openTime := s.clock.laneTime, reports := t.drawer.reports } }
              ∧ ∃ q, t.port.shows (.drawerState q) ∧ q.state = .forcedOpen ∧ q.sense = level)
            ∧ (s.drawer.state = .waitGrant → Runs (.drawerSenseChange level) s fun t =>
                Opened { s with drawer := { s.drawer with sense := level } } t true ∧ t.supply.solRequest = none
                ∧ t.supply.solGrant = s.supply.solGrant ∧ t.scale = s.scale ∧ t.clock = s.clock ∧ t.inputs = u.inputs
                ∧ ∃ q, t.port.shows (.drawerState q) ∧ q.state = .opened)
            ∧ (s.drawer.state = .confirming → Runs (.drawerSenseChange level) s fun t =>
                Opened { s with drawer := { s.drawer with sense := level } } t false ∧ t.supply = s.supply ∧ t.scale = s.scale
                ∧ t.sales = s.sales ∧ t.clock = s.clock ∧ t.inputs = u.inputs
                ∧ ∃ q, t.port.shows (.drawerState q) ∧ q.state = .opened)
            ∧ (level = .closed → Runs (.drawerSenseChange level) s fun t =>
                t.drawerTrail = s.drawerTrail ++ [⟨.closed, s.clock.laneTime, servedSale s.drawer.permit,
                  servedPosition s.drawer.permit, none, false, false⟩]
                ∧ (∀ v, v = raiseEvent .drawerClosed s → t = { v with
                    port := t.port, inputs := u.inputs
                    scale := { s.scale with shockEnd := some (s.clock.laneTime + 300) }
                    drawer := { s.drawer with sense := level, state := .closed, permit := none, reports := t.drawer.reports } })
                ∧ ∃ q, t.port.shows (.drawerState q) ∧ q.state = .closed ∧ q.permit = none))))
  ∧ ∀ s : State, s.powered = true →
    (s.drawer.deferred = false ∨ 8 ≤ s.drawer.reports.length →
      Runs .drawerSenseDeferred s fun t => PortStands s t ∧ t = { s with port := t.port })
    ∧ ∀ other, s.drawer.deferred = true → s.drawer.reports.length < 8 → other ≠ s.drawer.sense →
        (s.inputs.sense = other →
          exec .drawerSenseDeferred s = exec (.drawerSenseChange other) { s with drawer := { s.drawer with deferred := false } })
        ∧ (s.drawer.state = .closed → other = .opened → Runs .drawerSenseDeferred s fun t =>
            ∃ r, (s.drawerTrail ++ [r]) <+: t.drawerTrail ∧ r.kind = .forced ∧ r.alarm = true)
        ∧ (s.drawer.state = .opened ∨ s.drawer.state = .forcedOpen → other = .closed → Runs .drawerSenseDeferred s fun t =>
            ∃ r, (s.drawerTrail ++ [r]) <+: t.drawerTrail ∧ r.kind = .closed)

/-! ## Receipt printing (09_receipt_printing.md) -/

/-- The record tests (R140, R143, 13.5): what each kind of record carries, the tests of each kind in their order, and the glyphs and the
width of a field.

Append Lines (R140, R57), with its tests in order: the first record that fails decides the status and its position goes with it, nothing
being appended (a payload that ends inside a record fails in that record's turn: the model's choice, log 51); otherwise every record joins the end of the sale's list, the tokens named become QUEUED, and an IDLE engine goes on as at
LINE_BEGIN. -/
def Obligations.AppendLinesTestsEveryRecord : Prop :=
 ((∀ (bytes rest : List Byte), bytes.length = 48 → ∃ dots : Dots, readRecord (0 :: bytes ++ rest) = some (.raster dots, rest)
      ∧ ∀ column, column < 384 → dots.getLsbD column = (bytes.getD (column / 8) 0).getMsbD (column % 8))
  ∧ (∀ (n : Byte) (rest : List Byte), readRecord (1 :: n :: rest) = some (.feed n.toNat, rest))
  ∧ (∀ (token start : BitVec 16) (f : Byte) (rest : List Byte),
      readRecord (2 :: (be16 token ++ be16 start ++ [f]) ++ rest) = some (.overlay token.toNat start.toNat f, rest))
  ∧ (∀ (kind : Byte) (rest : List Byte), 2 < kind.toNat → readRecord (kind :: rest) = none)
  ∧ (∀ (s : State) (x : Sale) (named : List Nat) (dots : Dots) (n : Nat),
      testRecord s x named (.raster dots) = .ok (.raster dots)
      ∧ testRecord s x named (.feed n) = if n = 0 then .error .badArg else .ok (.feed n 0))
  ∧ (∀ (s : State) (x : Sale) (named : List Nat) (token start : Nat) (f : Byte),
      (1 < f.toNat ∨ 383 < start → testRecord s x named (.overlay token start f) = .error .badArg)
      ∧ ∀ format, (f.toNat, format) ∈ [(0, OverlayFormat.kg3), (1, .g0)] → start ≤ 383 →
          ((x.token? token = none ∨ (∃ k, x.token? token = some k ∧ k.state ≠ .captured) ∨ token ∈ named) →
            testRecord s x named (.overlay token start f) = .error .badToken)
          ∧ ∀ k, x.token? token = some k → k.state = .captured → token ∉ named →
              (s.mgmt.glyphs.state ≠ .ready → testRecord s x named (.overlay token start f) = .error .notReady)
              ∧ (s.mgmt.glyphs.state = .ready → testRecord s x named (.overlay token start f) =
                  if start + fieldWidth format k.figures.n.toNat - 1 ≤ 383 then .ok (.overlay token start format)
                  else .error .badArg))
  ∧ ∀ (net : BitVec 16) (whole : List Nat), net.toNat ≤ 60000 → (∀ d ∈ whole, d ≤ 9) → whole ≠ [] →
      (whole.head? = some 0 → whole.length = 1) →
      (whole.foldl (fun n d => 10 * n + d) 0 = net.toNat / 1000 →
        fieldGlyphs .kg3 net.toNat =
          whole ++ [10, net.toNat / 100 % 10, net.toNat / 10 % 10, net.toNat % 10, 11, 12, 13]
        ∧ fieldWidth .kg3 net.toNat = 12 * (whole.length + 7) ∧ fieldWidth .kg3 net.toNat ≤ 108)
      ∧ (whole.foldl (fun n d => 10 * n + d) 0 = net.toNat → fieldGlyphs .g0 net.toNat = whole ++ [11, 13]
        ∧ fieldWidth .g0 net.toNat = 12 * (whole.length + 2) ∧ fieldWidth .g0 net.toNat ≤ 84)) ∧
 (∀ (tag : Byte) (sale : BitVec 16) (records : List Byte) (s : State), Ready s →
    (s.sales.find? sale.toNat = none → OnlyAnswers (.appendLines tag sale records) s .noSale .empty)
    ∧ ∀ slot x, s.sales.find? sale.toNat = some (slot, x) →
        (x.state ∉ [SaleState.opened, .tendering, .settled] → OnlyAnswers (.appendLines tag sale records) s .state .empty)
        ∧ (x.state ∈ [SaleState.opened, .tendering, .settled] →
            (records = [] → OnlyAnswers (.appendLines tag sale records) s .badArg .empty)
            ∧ ∀ (parts : List (List Byte × RawRecord)) (new : List LineRecord), parts.length = new.length →
                (∀ p ∈ parts, ∀ rest, readRecord (p.1 ++ rest) = some (p.2, rest)) →
                (∀ i p r, parts[i]? = some p → new[i]? = some r → testRecord s x (namedTokens (new.take i)) p.2 = .ok r) →
                (∀ rest, records = parts.flatMap Prod.fst ++ rest → rest ≠ [] → readRecord rest = none →
                  OnlyAnswers (.appendLines tag sale records) s .badArg (.small (new.length + 1)))
                ∧ (∀ rest raw more st, records = parts.flatMap Prod.fst ++ rest → readRecord rest = some (raw, more) →
                    testRecord s x (namedTokens new) raw = .error st →
                    OnlyAnswers (.appendLines tag sale records) s st (.small (new.length + 1)))
                ∧ (records = parts.flatMap Prod.fst → parts ≠ [] →
                    (160 < (s.printer.lines slot ++ new).length → OnlyAnswers (.appendLines tag sale records) s .noRoom .empty)
                    ∧ ((s.printer.lines slot ++ new).length ≤ 160 →
                        ∀ (queued : Token → Token) (u : State),
                          (∀ k, queued k = if k.number ∈ namedTokens new then { k with state := .queued } else k) →
                          u = { s with
                            printer := s.printer.setLines slot (s.printer.lines slot ++ new)
                            sales := s.sales.put slot (some { x with tokens := x.tokens.map queued }) } →
                          Performs (.appendLines tag sale records) s .ok (.small (s.printer.lines slot ++ new).length) fun t =>
                            (s.printer.engine ≠ .idle → NoReport s t ∧ t = { u with port := t.port })
                            ∧ (s.printer.engine = .idle →
                                PrinterShown s t ∧ ∃ v, exec .lineBegin u = .next v ∧ t = { v with port := t.port })))))

/-- Close Receipt and Resume Printing (R149, R150, R152), with their tests in order: a SETTLED sale without a CAPTURED token becomes
CLOSING with its SALE report; an engine STOPPED with cover and paper in order returns to its resume state and goes on, or asks for the
cutter again, which changes nothing but the engine, the supply and, where a solenoid waits, the drawer. -/
def Obligations.ReceiptsCloseAndPrintingResumes : Prop :=
  (∀ (tag : Byte) (sale : BitVec 16) (s : State), Ready s →
    (s.sales.find? sale.toNat = none → OnlyAnswers (.closeReceipt tag sale) s .noSale .empty)
    ∧ ∀ slot x, s.sales.find? sale.toNat = some (slot, x) →
        (x.state ≠ .settled → OnlyAnswers (.closeReceipt tag sale) s .state .empty)
        ∧ ∀ n, x.state = .settled → n = x.tokens.countP (fun k => k.state == .captured) →
            (n ≠ 0 → OnlyAnswers (.closeReceipt tag sale) s .incomplete (.small n))
            ∧ (n = 0 → 6 ≤ s.sales.reports.length → OnlyAnswers (.closeReceipt tag sale) s .busy .empty)
            ∧ (n = 0 → s.sales.reports.length < 6 → Performs (.closeReceipt tag sale) s .ok .empty fun t =>
                (∃ r, t.saleTrail = s.saleTrail ++ [r] ∧ r.sale = x.number ∧ r.slot = slot ∧ r.previous = .settled
                  ∧ r.newState = .closing ∧ r.cause = .closeReceipt ∧ r.time = s.clock.laneTime)
                ∧ (s.printer.engine ≠ .idle → t = { s with
                    port := t.port
                    sales := { s.sales.put slot (some { x with state := .closing }) with reports := t.sales.reports } })
                ∧ (s.printer.engine = .idle → PrinterShown s t ∧ ∃ v,
                    exec .lineBegin { s with sales := s.sales.put slot (some { x with state := .closing }) } = .next v
                    ∧ t = { v with port := t.port, sales := { v.sales with reports := t.sales.reports } })))
  ∧ ∀ (tag : Byte) (s : State), Ready s →
    (s.printer.engine ≠ .stopped ∨ s.printer.cover = .opened ∨ s.printer.paper = .out →
      OnlyAnswers (.resumePrinting tag) s .state .empty)
    ∧ (s.printer.engine = .stopped → s.printer.cover = .closed → s.printer.paper = .present →
        (s.printer.cause ≠ some .cutter → Performs (.resumePrinting tag) s .ok .empty fun t =>
          PrinterShown s t ∧ ∃ v, exec .lineBegin { s with printer := { s.printer with
              engine := s.printer.resume.getD .idle, cause := none, resume := none } } = .next v ∧ t = { v with port := t.port })
        ∧ (s.printer.cause = some .cutter → Performs (.resumePrinting tag) s .ok .empty fun t =>
            t.printer.engine = .cutting ∧ t.printer.cause = none ∧ t.printer.cutSale = s.printer.cutSale
            ∧ (∃ q, t.port.shows (.printerState q) ∧ q.engine = .cutting ∧ q.cause = none)
            ∧ CutterAsked s t
            ∧ (s.printer.line = none → t = { s with
                port := t.port, supply := t.supply, drawer := t.drawer
                printer := { s.printer with engine := .cutting, cause := none, resume := none, awaySeen := t.printer.awaySeen } })
            ∧ (s.supply.solRequest = none → t.drawer = s.drawer)))

/-- The beginning of a line (R107, R138, R139, R144 to R148, R151): an engine with anything outstanding, STOPPED or in HEAT_HOLD does
nothing; one with no sale to serve goes IDLE. OVERLAY records at the head of the list whose turn it is become active while fewer than 4
are. Then a RASTER or FEED record at the head, or a blank line while an OVERLAY record waits or a finished receipt pads its bands, makes
a line, with the glyph rows of every active overlay in its dots, unless the cover, the paper or the heat of the head stops it or the
reports wait; a list that ran dry leaves the engine IDLE with its overlays; and a finished receipt without any begins its cut feed. In
CUT_FEED the next line without dots is begun unless the reports wait, the cover or the paper stops it with its count kept, or none is left
and the engine is CUTTING; in CUTTING the cutter is asked for. A change of the engine's state or cause is shown (R155), and without one and
without a solenoid that waits no report is formed. The
strobe time is that of the temperature and the table at the first shot; a line that waits for its allowance has none yet (R166, R168, log
25). That an engine PRINTING without a line takes up its work afresh (log 31) is the model's choice. -/
def Obligations.LineBeginTakesTheNextWork : Prop :=
  ∀ s : State, s.powered = true →
    (s.printer.line.isSome = true ∨ s.supply.prnRequest.isSome = true ∨ s.supply.prnGrant.isSome = true
        ∨ s.printer.engine = .stopped ∨ s.printer.engine = .heatHold →
      Runs .lineBegin s fun t => PortStands s t ∧ t = { s with port := t.port })
    ∧ Runs .lineBegin s (fun t => PrinterShown s t
        ∧ (t.printer.engine = s.printer.engine → t.printer.cause = s.printer.cause → s.supply.solRequest = none → NoReport s t))
    ∧ (s.printer.line = none → s.supply.prnRequest = none → s.supply.prnGrant = none →
        (s.printer.engine = .cutting → Runs .lineBegin s fun t => CutterAsked s t
          ∧ t = { s with
              port := t.port, supply := t.supply, drawer := t.drawer
              printer := { s.printer with awaySeen := t.printer.awaySeen } })
        ∧ (s.printer.engine = .cutFeed → s.printer.feed = 0 → Runs .lineBegin s fun t => CutterAsked s t
          ∧ t = { s with
              port := t.port, supply := t.supply, drawer := t.drawer
              printer := { s.printer with engine := .cutting, cause := none, resume := none, awaySeen := t.printer.awaySeen } })
        ∧ (s.printer.engine = .cutFeed → s.printer.feed ≠ 0 →
            (4 ≤ s.printer.reports.length → Runs .lineBegin s fun t => PortStands s t ∧ t = { s with port := t.port })
            ∧ ∀ stop : Option StopCause, s.printer.reports.length < 4 →
                stop = (if s.printer.cover = .opened then some StopCause.cover
                  else if s.printer.paper = .out then some .paper else none) →
                (stop ≠ none → Runs .lineBegin s fun t =>
                  t = { s with port := t.port, printer := { s.printer with
                    engine := .stopped, cause := stop, resume := some .cutFeed } })
                ∧ ∀ number slot x, stop = none → s.printer.cutSale = some number → s.sales.find? number = some (slot, x) →
                    s.supply.solRequest = none → Runs .lineBegin s fun t =>
                      t = { s with port := t.port, supply := t.supply, sales := t.sales, printer := { s.printer with line := t.printer.line } }
                      ∧ (s.printer.overlays = [] → t.sales = s.sales)
                      ∧ (∃ l, t.printer.line = some l ∧ l.slot = slot ∧ l.cutFeed = true ∧ l.dots = 0 ∧ l.unfired = 0
                          ∧ l.shot = none ∧ l.stepping = true)
                      ∧ ∀ ma, ma = min s.mgmt.params.motorCurrentMa s.supply.budget →
                          t.supply = { s.supply with prnRequest := some ⟨.motor, ma, 1500⟩ }
                            ∨ t.supply = { s.supply with prnGrant := some ⟨.motor, ma, s.clock.instant, 1500⟩ }))
    ∧ (s.printer.line = none → s.supply.prnRequest = none → s.supply.prnGrant = none →
        (s.printer.engine = .idle ∨ s.printer.engine = .printing) →
        ∀ (stop : Option StopCause) (idle : Printer → Printer),
        stop = (if s.printer.cover = .opened then some StopCause.cover
            else if s.printer.paper = .out then some .paper else none) →
        (∀ b, idle b = { b with
          engine := if stop = none then .idle else .stopped, cause := stop, resume := if stop = none then none else some .idle }) →
        (s.sales.turn? = none → Runs .lineBegin s fun t => t = { s with port := t.port, printer := idle s.printer })
        ∧ ∀ (slot : Nat) (x : Sale) (taken : List (Nat × Nat × OverlayFormat)) (rest : List LineRecord) (active : List Overlay)
            (b : Printer), s.sales.turn? = some slot → s.sales.at? slot = some x →
            s.printer.lines slot = taken.map (fun p => .overlay p.1 p.2.1 p.2.2) ++ rest →
            active = s.printer.overlays ++ taken.map (fun p =>
              ⟨p.1, ((x.token? p.1).map fun k => k.figures.n).getD 0, p.2.1, p.2.2, 24⟩) →
            (taken ≠ [] → active.length ≤ 4) →
            (4 ≤ active.length ∨ ∀ token start format more, rest ≠ .overlay token start format :: more) →
            b = { s.printer.setLines slot rest with overlays := active } →
            (rest = [] → x.state ≠ .closing → x.state ≠ .aborting → Runs .lineBegin s fun t =>
              t = { s with port := t.port, printer := idle b })
            ∧ (rest = [] → x.state = .closing ∨ x.state = .aborting → active = [] → stop = none → s.printer.reports.length < 4 →
                Runs .lineBegin s fun t =>
                  t.printer.cutSale = some x.number ∧ t.printer.feed = s.mgmt.params.cutFeedLines
                  ∧ t.printer.engine = (if s.mgmt.params.cutFeedLines = 0 then .cutting else .cutFeed)
                  ∧ (t.supply.prnRequest.isSome = true ∨ t.supply.prnGrant.isSome = true)
                  ∧ t.saleTrail = s.saleTrail ∧ t.printerTrail = s.printerTrail)
            ∧ (rest = [] → x.state = .closing ∨ x.state = .aborting → active = [] → Runs .lineBegin s fun t =>
                ∃ v, exec .lineBegin { s with printer := { b with
                    engine := .cutFeed, cause := none, resume := none, cutSale := some x.number
                    feed := s.mgmt.params.cutFeedLines } } = .next v ∧ t = { v with port := t.port })
            ∧ ∀ (own dots : Dots) (left : List LineRecord) (mark : Token → Token),
                (rest = .raster own :: left
                  ∨ (own = 0 ∧ ∃ n begun more, rest = .feed n begun :: more
                    ∧ left = (if begun + 1 < n then .feed n (begun + 1) :: more else more))
                  ∨ (own = 0 ∧ left = rest ∧ ∃ token start format more, rest = .overlay token start format :: more)
                  ∨ (own = 0 ∧ left = [] ∧ rest = [] ∧ active ≠ [] ∧ (x.state = .closing ∨ x.state = .aborting))) →
                (∀ c, c < 384 → (dots.getLsbD c = true ↔ own.getLsbD c = true ∨ ∃ o ∈ active, ∃ k g rows row j,
                  (fieldGlyphs o.format o.net.toNat)[k]? = some g ∧ s.mgmt.glyphs.at? g = some rows
                    ∧ rows[24 - o.remaining]? = some row ∧ j < 12 ∧ row.getMsbD j = true ∧ c = o.start + 12 * k + j)) →
                (∀ k, mark k = if dots = 0 ∧ k.state = .queued ∧ ∃ o ∈ active, o.token = k.number ∧ o.remaining = 24
                  then { k with state := .printing } else k) →
                (4 ≤ s.printer.reports.length → Runs .lineBegin s fun t =>
                  t = { s with port := t.port, printer := { b with engine := .printing, cause := none, resume := none } })
                ∧ (s.printer.reports.length < 4 →
                    (stop ≠ none → Runs .lineBegin s fun t =>
                      t = { s with port := t.port, printer := { b with
                        engine := .stopped, cause := stop, resume := some .printing } })
                    ∧ (stop = none → dots ≠ 0 → 75 ≤ s.printer.temp → Runs .lineBegin s fun t =>
                      t = { s with port := t.port, printer := { b with
                        engine := .heatHold, cause := none, resume := some .printing } })
                    ∧ (stop = none → dots = 0 ∨ s.printer.temp < 75 → s.supply.solRequest = none → Runs .lineBegin s fun t =>
                      t = { s with
                        port := t.port, sales := s.sales.put slot (some { x with linePrinted := true, tokens := x.tokens.map mark })
                        printer := { s.printer.setLines slot left with
                          engine := .printing, cause := none, resume := none, overlays := active, line := t.printer.line }
                        supply := { s.supply with prnRequest := t.supply.prnRequest, prnGrant := t.supply.prnGrant } }
                      ∧ t.printer.lines slot = left ∧ t.printer.lines (1 - slot) = s.printer.lines (1 - slot)
                      ∧ t.printer.engine = .printing ∧ t.printer.overlays = active
                      ∧ (∃ l, t.printer.line = some l ∧ l.slot = slot ∧ l.cutFeed = false ∧ l.dots = dots
                          ∧ l.volts = s.supply.volts ∧ l.iDot = dotCurrent s.supply.volts
                          ∧ l.allowance = strobeAllowance s
                          ∧ (dots = 0 → l.stepping = true ∧ l.shot = none
                            ∧ ∀ ma, ma = min s.mgmt.params.motorCurrentMa s.supply.budget →
                              t.supply.prnRequest = some ⟨.motor, ma, 1500⟩
                                ∨ t.supply.prnGrant = some ⟨.motor, ma, s.clock.instant, 1500⟩)
                          ∧ (shots l.allowance l.iDot dots = none →
                              l.stepping = false ∧ l.unfired = dots ∧ l.shot = none ∧ l.strobe = none ∧ t.supply.prnRequest = none
                              ∧ t.supply.prnGrant = none)
                          ∧ (∀ shot later time, shots l.allowance l.iDot dots = some (shot :: later) →
                              time = strobeTime (baseTime s.mgmt.strobes s.printer.temp) s.supply.volts →
                              l.stepping = false ∧ l.unfired = dots &&& ~~~shot ∧ l.shot = some shot ∧ l.strobe = some time
                              ∧ (t.supply.prnRequest = some ⟨.strobe, dotsCurrent l.iDot shot, time⟩
                                ∨ t.supply.prnGrant = some ⟨.strobe, dotsCurrent l.iDot shot, s.clock.instant, time⟩ ∧ heatedDots t = shot))))))

/-- The cut (R137, R152): CUT_COMPLETE acts once the home switch, having read AWAY in this drive, or in a homing run at once, reads HOME
(log 27). The grant is released; the cut sale becomes CLOSED with its SALE and CUT reports, its event and its count; a homing run changes
no sale. The engine then takes up its next work, whatever sales stand in the slots. A change of the home switch is shown (R155) and marks the drive; when it reads HOME the cut, or the homing run, is completed as by that row if
its conditions hold, and the state in which the engine then stands is shown, with the switch at HOME. -/
def Obligations.TheCutClosesItsSale : Prop :=
  (∀ (s : State) (due : Prop), s.powered = true →
    (due ↔ s.printer.engine = .cutting ∧ (∃ g, s.supply.prnGrant = some g ∧ g.kind = .cutter) ∧ s.printer.cutter = .home
      ∧ (s.printer.awaySeen = true ∨ s.printer.cutSale = none)) →
    (¬due → Runs .cutComplete s fun t => PortStands s t ∧ t = { s with port := t.port })
    ∧ (due → s.printer.line = none →
        (∀ number slot x, s.printer.cutSale = some number → s.sales.find? number = some (slot, x) → Runs .cutComplete s fun t =>
          (t.sales.at? slot).map Sale.state = some .closed
          ∧ (∃ r, t.saleTrail = s.saleTrail ++ [r] ∧ r.sale = x.number ∧ r.newState = .closed ∧ r.previous = x.state
              ∧ r.cause = .receiptCut ∧ r.time = s.clock.laneTime)
          ∧ t.printerTrail = s.printerTrail ++ [.cut number x.aborted x.dotLines s.clock.laneTime]
          ∧ t.mgmt = { (raiseEvent .receiptCut s).mgmt with counters := { (raiseEvent .receiptCut s).mgmt.counters with
              receiptsCut := satInc s.mgmt.counters.receiptsCut } }
          ∧ t.printer.awaySeen = false ∧ (∀ g, t.supply.prnGrant = some g → g.start = s.clock.instant)
          ∧ t.clock = s.clock ∧ t.store = s.store
          ∧ (s.supply.prnRequest = none → PrinterShown s t ∧ ∃ w, GoesOn w t
            ∧ w = { printerReleased s with
                port := w.port, mgmt := w.mgmt, scan := w.scan, swipe := w.swipe
                sales := { s.sales.put slot (some { x with state := .closed }) with reports := w.sales.reports }
                printer := { s.printer with engine := .idle, cutSale := none, awaySeen := false, reports := w.printer.reports } }))
        ∧ (s.printer.cutSale = none → s.supply.prnRequest = none → Runs .cutComplete s fun t => PrinterShown s t
            ∧ t.saleTrail = s.saleTrail ∧ t.printerTrail = s.printerTrail ∧ t.mgmt = s.mgmt
            ∧ GoesOn { printerReleased s with
                printer := { s.printer with engine := .idle, cutSale := none, awaySeen := false } } t)
        ∧ (s.printer.cutSale = none → s.sales.slot0 = none → s.sales.slot1 = none → s.supply.prnRequest = none → Runs .cutComplete s fun t =>
            t.sales = s.sales ∧ t.saleTrail = s.saleTrail ∧ t.printerTrail = s.printerTrail ∧ t.mgmt = s.mgmt
            ∧ t.supply.prnGrant = none ∧ t.printer.awaySeen = false ∧ t.printer.cutSale = none
            ∧ (t.printer.engine = .idle ∨ t.printer.engine = .stopped))))
  ∧ ∀ (level : CutterLevel) (s u : State), s.powered = true → u = { s with inputs := { s.inputs with cutter := level } } →
    (s.printer.cutter = level → Runs (.cutterSwitchChange level) s fun t => PortStands s t ∧ t = { u with port := t.port })
    ∧ (s.printer.cutter ≠ level → level = .away ∨ s.printer.engine ≠ .cutting →
        Runs (.cutterSwitchChange level) s fun t =>
          t = { u with port := t.port, printer := { s.printer with
            cutter := level
            awaySeen := s.printer.awaySeen || (level == .away && (s.supply.prnGrant.map Grant.kind == some .cutter)) } }
          ∧ ∃ q, t.port.shows (.printerState q) ∧ q.cutter = level ∧ q.engine = s.printer.engine)
    ∧ (s.printer.cutter = .away → level = .home → ∃ v : State,
        v = { u with port := v.port, printer := { s.printer with cutter := .home } } ∧ OnlyStateReports s v
        ∧ (∃ q, v.port.shows (.printerState q) ∧ q.cutter = .home ∧ q.engine = s.printer.engine)
        ∧ exec (.cutterSwitchChange level) s = exec .cutComplete v)
    ∧ ∀ due : Prop, s.printer.cutter = .away → level = .home → s.printer.engine = .cutting →
        (due ↔ (∃ g, s.supply.prnGrant = some g ∧ g.kind = .cutter) ∧ (s.printer.awaySeen = true ∨ s.printer.cutSale = none)) →
        (¬due → Runs (.cutterSwitchChange level) s fun t =>
          t = { u with port := t.port, printer := { s.printer with cutter := .home } }
          ∧ ∃ q, t.port.shows (.printerState q) ∧ q.cutter = .home ∧ q.engine = .cutting)
        ∧ (due → Runs (.cutterSwitchChange level) s fun t => t.printer.cutter = .home
            ∧ (∃ q, t.port.shows (.printerState q) ∧ q.cutter = .home ∧ q.engine = t.printer.engine ∧ q.cause = t.printer.cause)
            ∧ (s.printer.cutSale = none → t.saleTrail = s.saleTrail ∧ t.printerTrail = s.printerTrail ∧ t.mgmt = s.mgmt)
            ∧ ∀ number slot x, s.printer.cutSale = some number → s.sales.find? number = some (slot, x) → s.printer.line = none →
                (t.sales.at? slot).map Sale.state = some .closed
                ∧ t.printerTrail = s.printerTrail ++ [.cut number x.aborted x.dotLines s.clock.laneTime])

/-- The other sensors (R137, R147, R148): a change of the paper, near-end or cover reading is shown and raises its event, and an IDLE engine
stops for the cover first and then for the paper; a head temperature is taken as it is read, and at 60 °C or below an engine in HEAT_HOLD
returns to its resume state and goes on. -/
def Obligations.SensorChangesStopAndRelease : Prop :=
  (∀ (s : State), s.powered = true →
    (∀ w u, u = { s with inputs := InputLevels.with s.inputs w } →
      (w = .paper s.printer.paper ∨ w = .nearEnd s.printer.nearEnd ∨ w = .cover s.printer.cover →
        Runs (.printerSwitchChange w) s fun t => PortStands s t ∧ t = { u with port := t.port }))
    ∧ (∀ level v, s.printer.nearEnd ≠ level → v = (if level = .nearEnd then raiseEvent .paperNearEnd s else s) →
        Runs (.printerSwitchChange (.nearEnd level)) s fun t =>
          t = { v with
            port := t.port, inputs := { s.inputs with nearEnd := level }, printer := { s.printer with nearEnd := level } }
          ∧ ∃ q, t.port.shows (.printerState q) ∧ q.nearEnd = level)
    ∧ (∀ level v stops, s.printer.paper ≠ level → v = (if level = .out then raiseEvent .paperOut s else s) →
        (stops ↔ s.printer.engine = .idle ∧ (level = .out ∨ s.printer.cover = .opened)) →
        Runs (.printerSwitchChange (.paper level)) s fun t =>
          (stops → t = { v with
            port := t.port, inputs := { s.inputs with paper := level }
            printer := { s.printer with
              paper := level, engine := .stopped, resume := some .idle
              cause := some (if s.printer.cover = .opened then .cover else .paper) } })
          ∧ (¬stops → t = { v with
            port := t.port, inputs := { s.inputs with paper := level }, printer := { s.printer with paper := level } })
          ∧ ∃ q, t.port.shows (.printerState q) ∧ q.paper = level ∧ q.engine = t.printer.engine ∧ q.cause = t.printer.cause)
    ∧ ∀ level stops, s.printer.cover ≠ level →
        (stops ↔ s.printer.engine = .idle ∧ (level = .opened ∨ s.printer.paper = .out)) →
        Runs (.printerSwitchChange (.cover level)) s fun t =>
          (stops → t = { s with
            port := t.port, inputs := { s.inputs with cover := level }
            printer := { s.printer with
              cover := level, engine := .stopped, resume := some .idle
              cause := some (if level = .opened then .cover else .paper) } })
          ∧ (¬stops → t = { s with
            port := t.port, inputs := { s.inputs with cover := level }, printer := { s.printer with cover := level } })
          ∧ ∃ q, t.port.shows (.printerState q) ∧ q.cover = level ∧ q.engine = t.printer.engine ∧ q.cause = t.printer.cause)
  ∧ ∀ (temp : Int) (s : State), s.powered = true →
    (s.printer.engine ≠ .heatHold ∨ 60 < temp → Runs (.thermistorReading temp) s fun t => PortStands s t
      ∧ t = { s with port := t.port, printer := { s.printer with temp := temp } })
    ∧ (s.printer.engine = .heatHold → temp ≤ 60 → Runs (.thermistorReading temp) s fun t =>
        PrinterShown s t ∧ ∃ v, exec .lineBegin { s with printer := { s.printer with
            temp := temp, engine := s.printer.resume.getD .printing, cause := none, resume := none } } = .next v
          ∧ t = { v with port := t.port })

/-! ## Supply arbiter and head energy (10_supply_arbiter_and_head_energy.md) -/

/-- The supply (R129, R157 to R162): the grant test takes the solenoid first and keeps its amount free while it waits, grants within the
budget in force and, under quiet demand, to the printer only between two conversion windows, and nothing in LOW_SUPPLY; at the pulse a
line that waits is packed again (R164, R166), with the strobe time of that moment where its strobe phase has not begun (R168). The head
heats the shot's dots for the life of its STROBE grant, and no dots at another time (R146). A grant ends at its planned end and not
before (log 4): a pending budget takes effect with no other grant active, a waiting solenoid is formed again for it and granted, the holder goes
on with its next shot, packed again for the allowance of the budget that has taken effect (R157, R164, R166), or its step, and a
solenoid's end is the pulse end (R130). At the end of a step the line is over: it counts for its sale, every band has a line less, one
with none left leaves with its token PRINTED and its report, a line of the cut feed takes one from what remains (R151), and the engine
takes up its next work. The readings of the supply voltage act with their hysteresis. That a pulse takes drawer_pulse_ms as it stands at
the grant (log 16), that a cutter whose grant runs out leaves nothing to resume (log 26), that bands complete on one line in the order of
activation (log 45), and that any test at a trigger instant counts it as outside the window once its sample has been handled (log 54), is
the model's choice. -/
def Obligations.GrantsFitTheBudgetAndTheQuiet : Prop :=
  (∀ s : State, s.powered = true →
    ((∀ g, s.supply.prnGrant = some g → g.kind ≠ .strobe) → heatedDots s = 0)
    ∧ (s.supply.low = true ∨ (s.supply.solRequest = none ∧ s.supply.prnRequest = none) →
      Runs .grant s fun t => PortStands s t ∧ t = { s with port := t.port })
    ∧ (∀ r, s.supply.low = false → s.supply.solRequest = some r → s.supply.activeMa + r.amount ≤ s.supply.budget →
        Runs .grant s fun t => t.supply.solRequest = none
          ∧ t.supply.solGrant = some ⟨.solenoid, r.amount, s.clock.instant, s.mgmt.params.drawerPulseMs * 1000⟩
          ∧ t.drawer = { s.drawer with
              state := .pulsing, openedMark := false
              pulseEnd := s.clock.laneTime + BitVec.ofNat 32 s.mgmt.params.drawerPulseMs }
          ∧ t.sales = s.sales ∧ t.scale = s.scale ∧ t.mgmt = s.mgmt ∧ t.clock = s.clock
          ∧ (∀ l, s.printer.line = some l → l.stepping = false → l.unfired ≠ 0 → s.supply.prnRequest = none →
              s.supply.prnGrant = none → ∀ allowance time, allowance = s.supply.budget - r.amount → StrobeTimeIs s l time →
              (shots allowance l.iDot l.unfired = none →
                t.printer.line = some { l with allowance := allowance } ∧ t.supply.prnRequest = none ∧ t.supply.prnGrant = none)
              ∧ (∀ shot later, shots allowance l.iDot l.unfired = some (shot :: later) →
                t.printer.line = some { l with
                  allowance := allowance, unfired := l.unfired &&& ~~~shot, shot := some shot, strobe := some time }
                ∧ (t.supply.prnRequest = some ⟨.strobe, dotsCurrent l.iDot shot, time⟩
                  ∨ t.supply.prnGrant = some ⟨.strobe, dotsCurrent l.iDot shot, s.clock.instant, time⟩)))
          ∧ ∃ q, t.port.shows (.drawerState q) ∧ q.state = .pulsing)
    ∧ ∀ (r : Request) (reserved : Nat) (between fits : Prop), s.supply.low = false → s.supply.prnRequest = some r →
        (s.supply.solRequest = none → reserved = 0) →
        (∀ q, s.supply.solRequest = some q → s.supply.budget < s.supply.activeMa + q.amount ∧ reserved = q.amount) →
        (between ↔ s.supply.quiet = true → ((s.clock.instant % 8000 = 0 ∧ s.clock.sampled = true) ∨ 0 < s.clock.instant % 8000)
          ∧ s.clock.instant % 8000 + r.duration ≤ 6000) →
        (fits ↔ s.supply.activeMa + r.amount + reserved ≤ s.supply.budget ∧ between) →
        (fits → Runs .grant s fun t => PortStands s t
          ∧ t = { s with
              port := t.port
              supply := { s.supply with prnRequest := none, prnGrant := some ⟨r.kind, r.amount, s.clock.instant, r.duration⟩ }
              printer := { s.printer with
                awaySeen := if r.kind = .cutter then s.printer.cutter == .away else s.printer.awaySeen } }
          ∧ heatedDots t = if r.kind = .strobe then (s.printer.line.bind Line.shot).getD 0 else 0)
        ∧ (¬fits → Runs .grant s fun t => PortStands s t ∧ t = { s with port := t.port }))
  ∧ (∀ s : State, s.powered = true →
    ((∀ g, s.supply.prnGrant = some g ∨ s.supply.solGrant = some g →
        (s.clock.instant + (circle - g.start % circle)) % circle < g.duration) →
      Runs .grantEnd s fun t => PortStands s t ∧ t = { s with port := t.port })
    ∧ (∀ g, s.supply.prnGrant = some g → g.duration ≤ (s.clock.instant + (circle - g.start % circle)) % circle →
        ∀ budget, budget = (if s.supply.solGrant = none then s.supply.pendingBudget.getD s.supply.budget else s.supply.budget) →
        Runs .grantEnd s fun t =>
          t.supply.budget = budget
          ∧ t.supply.pendingBudget = (if s.supply.solGrant = none then none else s.supply.pendingBudget)
          ∧ (s.supply.solRequest = none → t.supply.solRequest = none ∧ t.supply.solGrant = s.supply.solGrant ∧ t.drawer = s.drawer)
          ∧ (∀ r q, s.supply.solRequest = some r → s.supply.solGrant = none →
              q = (if budget = s.supply.budget then r
                else ⟨.solenoid, min s.mgmt.params.drawerCurrentMa budget, s.mgmt.params.drawerPulseMs * 1000⟩) →
              (s.supply.low = true → t.supply.solRequest = some q ∧ t.supply.solGrant = none ∧ t.drawer = s.drawer)
              ∧ (s.supply.low = false → q.amount ≤ budget →
                  t.supply.solRequest = none
                  ∧ t.supply.solGrant = some ⟨.solenoid, q.amount, s.clock.instant, s.mgmt.params.drawerPulseMs * 1000⟩
                  ∧ t.drawer = { s.drawer with
                      state := .pulsing, openedMark := false
                      pulseEnd := s.clock.laneTime + BitVec.ofNat 32 s.mgmt.params.drawerPulseMs }
                  ∧ ∃ m, t.port.shows (.drawerState m) ∧ m.state = .pulsing)))
    ∧ (∀ g l budget time, s.supply.prnGrant = some g → g.duration ≤ (s.clock.instant + (circle - g.start % circle)) % circle →
        g.kind = .strobe → s.supply.prnRequest = none → s.supply.solRequest = none → s.supply.solGrant = none →
        s.supply.pendingBudget = some budget → budget ≠ s.supply.budget → s.printer.line = some l → l.stepping = false →
        l.unfired ≠ 0 → StrobeTimeIs s l time →
        (shots budget l.iDot l.unfired = none → Runs .grantEnd s fun t =>
          t.printer = { s.printer with line := some { l with allowance := budget, shot := none } }
          ∧ t.supply.prnRequest = none ∧ t.supply.prnGrant = none)
        ∧ ∀ shot later, shots budget l.iDot l.unfired = some (shot :: later) → Runs .grantEnd s fun t =>
            t.printer = { s.printer with line := some { l with
              allowance := budget, unfired := l.unfired &&& ~~~shot, shot := some shot, strobe := some time } }
            ∧ (t.supply.prnRequest = some ⟨.strobe, dotsCurrent l.iDot shot, time⟩ ∧ t.supply.prnGrant = none
              ∨ t.supply.prnRequest = none
                ∧ t.supply.prnGrant = some ⟨.strobe, dotsCurrent l.iDot shot, s.clock.instant, time⟩))
    ∧ (∀ g, s.supply.solGrant = some g → g.duration ≤ (s.clock.instant + (circle - g.start % circle)) % circle →
        s.supply.prnGrant = none → s.supply.solRequest = none → Runs .grantEnd s fun t =>
          t.supply.solGrant = none ∧ t.supply.solRequest = none ∧ t.supply.pendingBudget = none
          ∧ t.supply.budget = s.supply.pendingBudget.getD s.supply.budget
          ∧ t.scale = { s.scale with
              shockEnd := some (s.clock.laneTime + 300), disturbed := s.scale.disturbed || s.clock.inWindow }
          ∧ (s.drawer.openedMark = false → t.drawerTrail = s.drawerTrail ∧ t.mgmt = s.mgmt
              ∧ t.drawer = { s.drawer with state := .confirming, deadline := s.clock.laneTime + 500 })
          ∧ (s.drawer.openedMark = true → Opened s t false)
          ∧ t.clock = s.clock ∧ t.store = s.store)
    ∧ ∀ g, s.supply.prnGrant = some g → g.duration ≤ (s.clock.instant + (circle - g.start % circle)) % circle →
        s.supply.pendingBudget = none → s.supply.solRequest = none → s.supply.prnRequest = none →
        ∀ inWindow, inWindow = s.clock.inWindow →
        (g.kind = .cutter → Runs .grantEnd s fun t =>
          t = { s with
            port := t.port
            scale := { s.scale with disturbed := s.scale.disturbed || inWindow }
            supply := { s.supply with prnGrant := none, quiet := if s.scale.queue = [] then s.supply.quiet else true }
            printer := { s.printer with engine := .stopped, cause := some .cutter, resume := none } }
          ∧ PrinterShown s t)
        ∧ (g.kind = .strobe → ∀ l, s.printer.line = some l → l.stepping = false → l.unfired ≠ 0 →
            (shots l.allowance l.iDot l.unfired = none → Runs .grantEnd s fun t =>
              t.printer = { s.printer with line := some { l with shot := none } } ∧ t.sales = s.sales
              ∧ t.supply.prnRequest = none ∧ t.supply.prnGrant = none ∧ heatedDots t = 0)
            ∧ ∀ shot later time, shots l.allowance l.iDot l.unfired = some (shot :: later) → StrobeTimeIs s l time →
              Runs .grantEnd s fun t =>
                t.printer = { s.printer with line := some { l with
                  unfired := l.unfired &&& ~~~shot, shot := some shot, strobe := some time } }
                ∧ t.sales = s.sales
                ∧ (t.supply.prnRequest = some ⟨.strobe, dotsCurrent l.iDot shot, time⟩ ∧ t.supply.prnGrant = none
                  ∨ t.supply.prnRequest = none
                    ∧ t.supply.prnGrant = some ⟨.strobe, dotsCurrent l.iDot shot, s.clock.instant, time⟩))
        ∧ (g.kind = .strobe → ∀ l, s.printer.line = some l → l.stepping = false → l.unfired = 0 → Runs .grantEnd s fun t =>
            t.printer.line = some { l with shot := none, stepping := true } ∧ heatedDots t = 0
            ∧ (∀ ma, ma = min s.mgmt.params.motorCurrentMa s.supply.budget →
                t.supply.prnRequest = some ⟨.motor, ma, 1500⟩ ∧ t.supply.prnGrant = none
                  ∨ t.supply.prnRequest = none ∧ t.supply.prnGrant = some ⟨.motor, ma, s.clock.instant, 1500⟩)
            ∧ ∀ (begun : Token → Token) (x : Sale), s.sales.at? l.slot = some x →
                (∀ k, begun k = if k.state = .queued ∧ ∃ o ∈ s.printer.overlays, o.token = k.number ∧ o.remaining = 24
                  then { k with state := .printing } else k) →
                t.sales = s.sales.put l.slot (some { x with tokens := x.tokens.map begun }))
        ∧ (g.kind = .motor → ∀ l x, s.printer.line = some l → l.cutFeed = false → s.sales.at? l.slot = some x →
            Runs .grantEnd s fun t =>
              ∃ y, t.sales.at? l.slot = some y ∧ y.dotLines = x.dotLines + 1 ∧ y.state = x.state ∧ y.number = x.number
                ∧ (∀ k : Token, k.number ∈ (s.printer.overlays.filter fun o => o.remaining ≤ 1).map Overlay.token →
                    k ∈ y.tokens → k.state = .printed)
                ∧ (s.printerTrail ++ (s.printer.overlays.filter fun o => o.remaining ≤ 1).map fun o =>
                    PrinterReport.tokenPrinted o.token x.number o.net o.format s.clock.laneTime) = t.printerTrail))
  ∧ (∀ (s : State) (g : Grant) (l : Line) (x y : Sale) (done left : List Overlay), s.powered = true →
    s.supply.prnGrant = some g → g.kind = .motor → g.duration ≤ (s.clock.instant + (circle - g.start % circle)) % circle →
    s.supply.prnRequest = none → s.printer.line = some l → s.sales.at? l.slot = some x →
    s.printer.engine = (if l.cutFeed then .cutFeed else .printing) →
    done = (if l.cutFeed then [] else s.printer.overlays.filter fun o => o.remaining ≤ 1) →
    left = (if l.cutFeed then s.printer.overlays
      else (s.printer.overlays.filter fun o => 1 < o.remaining).map fun o => { o with remaining := o.remaining - 1 }) →
    y = { x with
      dotLines := x.dotLines + 1
      tokens := x.tokens.map fun k => if k.number ∈ done.map Overlay.token then { k with state := .printed } else k } →
    Runs .grantEnd s fun t => PrinterShown s t ∧ ∃ w, GoesOn w t ∧ t.printerTrail = w.printerTrail
      ∧ w.printerTrail = s.printerTrail ++ done.map (fun o =>
          PrinterReport.tokenPrinted o.token x.number o.net o.format s.clock.laneTime)
      ∧ w = { printerReleased s with
          port := w.port, sales := s.sales.put l.slot (some y)
          printer := { s.printer with
            line := none, overlays := left, reports := w.printer.reports
            feed := if l.cutFeed then s.printer.feed - 1 else s.printer.feed } })
  ∧ ∀ (volts : BitVec 16) (s u : State), s.powered = true → u = { s with supply := { s.supply with volts := volts.toNat } } →
    (s.supply.low = false → 6000 ≤ volts.toNat → Runs (.supplyReading volts) s fun t => PortStands s t ∧ t = { u with port := t.port })
    ∧ (s.supply.low = true → volts.toNat < 6300 → Runs (.supplyReading volts) s fun t => PortStands s t ∧ t = { u with port := t.port })
    ∧ (∀ v, s.supply.low = false → volts.toNat < 6000 → v = raiseEvent .lowSupply u → Runs (.supplyReading volts) s fun t =>
        PortStands s t ∧ t = { v with port := t.port, supply := { u.supply with low := true } })
    ∧ (∀ v, s.supply.low = true → 6300 ≤ volts.toNat → v = raiseEvent .supplyOk u → Runs (.supplyReading volts) s fun t =>
        exec .grant { v with supply := { u.supply with low := false } } = .next t)

/-- Head energy (R163 to R168): the dot current and the strobe time for a supply voltage, which is the quotient to the nearest µs and is
clamped only where that lies outside 100 to 2,000; a unit is a group of 64 columns within the allowance, a half of a group above it, or a
quarter of a half above it, and the units have every dot, in column order; the shots of a dot line share out exactly its
dots in that order, none draws more than the allowance, each is a run of whole consecutive units, and the unit that opens a shot would
exceed the allowance beside the whole shot before it; without a Strobe Table every base time is 700 µs, and with one READY it is the entry
of the head temperature's band. -/
def Obligations.ShotsShareOutTheDots : Prop :=
  (∀ volts : Nat, 28 ≤ dotCurrent volts ∧ dotCurrent volts ≤ 50
    ∧ 180 * (dotCurrent volts - 1) < max 5000 (min 9000 volts) ∧ max 5000 (min 9000 volts) ≤ 180 * dotCurrent volts)
  ∧ (∀ base volts v : Nat, v = max 5000 (min 9000 volts) → 100 ≤ strobeTime base volts ∧ strobeTime base volts ≤ 2000
      ∧ (strobeTime base volts = 100 → 2 * base * 51840000 < 201 * v ^ 2)
      ∧ (strobeTime base volts = 2000 → 3999 * v ^ 2 ≤ 2 * base * 51840000)
      ∧ (100 < strobeTime base volts → strobeTime base volts < 2000 →
          2 * (strobeTime base volts) * v ^ 2 ≤ 2 * base * 51840000 + v ^ 2
          ∧ 2 * base * 51840000 < (2 * strobeTime base volts + 1) * v ^ 2))
  ∧ (∀ (table : Table Nat) (temp : Int), table.state ≠ .ready → baseTime table temp = 700)
  ∧ (∀ (table : Table Nat) (temp : Int) (band base : Nat), table.state = .ready → table.at? band = some base →
      (band = 0 ∧ temp < 5) ∨ (1 ≤ band ∧ band ≤ 6 ∧ 10 * (band : Int) - 5 ≤ temp ∧ temp < 10 * band + 5) ∨ (band = 7 ∧ 65 ≤ temp) →
      baseTime table temp = base)
  ∧ (∀ (dots : Dots) (start width c : Nat), start + width ≤ 384 →
      ((columns dots start width).getLsbD c = true ↔ dots.getLsbD c = true ∧ start ≤ c ∧ c < start + width))
  ∧ (∀ (iDot : Nat) (dots : Dots), dotsCurrent iDot dots = iDot * ((List.range 384).filter fun c => dots.getLsbD c).length)
  ∧ (∀ (allowance iDot : Nat) (dots : Dots) (within : Nat → Nat → Prop),
      (∀ start width, within start width ↔ dotsCurrent iDot (columns dots start width) ≤ allowance) →
      (∀ u, u ∈ units allowance iDot dots ↔ u ≠ 0 ∧ ∃ k,
        (k < 6 ∧ u = columns dots (64 * k) 64 ∧ within (64 * k) 64)
          ∨ (k < 12 ∧ u = columns dots (32 * k) 32 ∧ within (32 * k) 32 ∧ ¬within (64 * (k / 2)) 64)
          ∨ (k < 24 ∧ u = columns dots (16 * k) 16 ∧ ¬within (32 * (k / 2)) 32 ∧ ¬within (64 * (k / 4)) 64))
      ∧ (units allowance iDot dots).foldl (· ||| ·) 0 = dots
      ∧ (units allowance iDot dots).Pairwise fun a b => ∀ i j, a.getLsbD i = true → b.getLsbD j = true → i < j)
  ∧ (∀ (allowance iDot : Nat) (dots : Dots) (l : List Dots), 1 ≤ iDot → shots allowance iDot dots = some l →
      l.foldl (· ||| ·) 0 = dots ∧ l.Pairwise (fun a b => a &&& b = 0)
      ∧ l.Pairwise (fun a b => ∀ i j, a.getLsbD i = true → b.getLsbD j = true → i < j)
      ∧ (∀ shot ∈ l, shot ≠ 0 ∧ dotsCurrent iDot shot ≤ allowance)
      ∧ ∃ parts : List (List Dots), parts.flatten = units allowance iDot dots ∧ (∀ part ∈ parts, part ≠ [])
          ∧ l = parts.map (fun part => part.foldl (· ||| ·) 0)
          ∧ ∀ (pre post : List (List Dots)) (a more : List Dots) (u : Dots), parts = pre ++ a :: (u :: more) :: post →
              allowance < dotsCurrent iDot (a.foldl (· ||| ·) 0) + dotsCurrent iDot u)
  ∧ ∀ (allowance iDot : Nat) (dots : Dots), shots allowance iDot dots = none ↔
      ∃ quarter < 24, ∃ q : Dots, q = columns dots (16 * quarter) 16 ∧ allowance < dotsCurrent iDot q

/-! ## Resets and the conditions that every step keeps -/

/-- Power-on (R16, R29, R76, R94, R125, R136, R156, R162, R169, R176, R182, R188, R189, 12.5): whatever went before, every block takes its
reset value, the record block is read, the drawer and the Print engine follow their switches, and the three STATE reports are the first of
the link (their order is log 9). That the interval list is empty and the overflow mark clear (log 49), that a cut feed remaining of none
is held as 0 (log 50), and that values without a meaning in the state of the drawer or the lamps and the model's own records stand at 0,
clear or absent (log 36), is the model's choice. After the loss of power only the block is left.

State.reset is what power-on leaves of a part whose block is unreadable, for the levels and the readings of log 7 and the block of
log 8, and it meets every condition that the steps keep. -/
def Obligations.PowerOnGivesTheResetState : Prop :=
 ((∀ (levels : InputLevels) (volts : BitVec 16) (temp : Int) (s : State) (cal : Option CalRecord),
    cal = s.store.block.bind readImage → ∃ t, exec (.powerOn levels volts temp) s = .next t
      ∧ t.powered = true ∧ t.clock = ⟨0, 0, 0, true⟩ ∧ t.inputs = levels
      ∧ t.mgmt = {
          params := {
            weighWaitS := 20, zeroTrack := 1, liveWeight := 0, drawerPulseMs := 80, drawerCurrentMa := 1200,
            drawerLeftOpenS := 30, noSaleAllowed := 0, cardTenderRequiresRef := 1, supplyBudgetMa := 2000,
            motorCurrentMa := 400, cutterCurrentMa := 600, cutFeedLines := 96, scannerRate := 9600 },
          items := ⟨.empty, [], 0⟩, tares := ⟨.empty, [], 1⟩, cards := ⟨.empty, [], 0⟩, masks := ⟨.empty, [], 0⟩,
          glyphs := ⟨.empty, [], 0⟩, strobes := ⟨.empty, [], 0⟩, reactions := ⟨.empty, [], 0⟩,
          counters := ⟨0, 0, 0, 0, 0, 0, 0, 0, 0, 0, 0, 0⟩, lampA := ⟨.off, false, 0⟩, lampB := ⟨.off, false, 0⟩, beeper := none }
      ∧ t.scale.engine = (if cal.isSome then .warming else .faultNotCalibrated) ∧ t.scale.resume = none ∧ t.scale.zMg = 0
      ∧ t.scale.armed = false ∧ t.scale.filter = [] ∧ t.scale.stability = [] ∧ t.scale.calWindow = [] ∧ t.scale.railRun = 0
      ∧ t.scale.inRangeRun = 0 ∧ t.scale.noisyRun = 0 ∧ t.scale.shockEnd = none ∧ t.scale.load = .none ∧ t.scale.zeroRun = none
      ∧ t.scale.trackLimit = false ∧ t.scale.flags = ⟨false, false, false⟩ ∧ t.scale.liveMemory = none ∧ t.scale.liveWaits = true ∧ t.scale.queue = []
      ∧ t.scale.outcomes = [] ∧ t.scale.passedOver = none ∧ t.scale.disturbed = false ∧ t.scale.newest = none ∧ t.scale.shown = none
      ∧ t.scale.cal = cal ∧ t.scale.session = false
      ∧ t.store = { block := s.store.block, copy := cal, inFlight := none, sealSwitch := levels.sealSwitch }
      ∧ t.scan = scanAtReset ∧ t.swipe = swipeAtReset 0 0
      ∧ t.sales = { slot0 := none, slot1 := none, nextSale := 1, nextToken := 1, turnKept := false, reports := [] }
      ∧ t.drawer.state = (if levels.sense = .opened then .opened else .closed) ∧ t.drawer.sense = levels.sense
      ∧ t.drawer.permit = none ∧ t.drawer.attempt = none ∧ t.drawer.openedMark = false ∧ t.drawer.reports = []
      ∧ t.drawer.openTime = 0 ∧ t.drawer.pulseEnd = 0 ∧ t.drawer.deadline = 0 ∧ t.drawer.deferred = false
      ∧ t.printer.cause = (if levels.cutter = .away then some .cutter else if levels.cover = .opened then some .cover
          else if levels.paper = .out then some .paper else none)
      ∧ t.printer.engine = (if t.printer.cause = none then .idle else .stopped)
      ∧ t.printer.resume = (if t.printer.cause = some .cover ∨ t.printer.cause = some .paper then some .idle else none)
      ∧ t.printer.lines0 = [] ∧ t.printer.lines1 = [] ∧ t.printer.overlays = [] ∧ t.printer.line = none
      ∧ t.printer.cutSale = none ∧ t.printer.reports = [] ∧ t.printer.temp = temp ∧ t.printer.feed = 0 ∧ t.printer.awaySeen = false
      ∧ t.printer.paper = levels.paper ∧ t.printer.nearEnd = levels.nearEnd ∧ t.printer.cover = levels.cover
      ∧ t.printer.cutter = levels.cutter
      ∧ t.supply = {
          budget := 2000, pendingBudget := none, solRequest := none, solGrant := none, prnRequest := none, prnGrant := none,
          quiet := false, low := decide (volts.toNat < 6000), volts := volts.toNat }
      ∧ t.port = { portAtReset with
          tx := some (.report (.scaleState (scaleStateOf t)))
          reports := [.drawerState (drawerStateOf t), .printerState (printerStateOf t)] })
  ∧ ∀ s : State, ∃ t, exec .powerLoss s = .next t ∧ t.powered = false ∧ t.store.block = s.store.block
      ∧ t.store.copy = none ∧ t.store.inFlight = none ∧ t.sales.slot0 = none ∧ t.sales.slot1 = none ∧ t.scale.cal = none) ∧
 ((∀ s : State, s.store.block = none → s.pending = [] →
    exec (.powerOn levelsAtReset (BitVec.ofNat 16 voltsAtReset) tempAtReset) s = .next State.reset)
  ∧ LinkInv State.reset ∧ AdmissionInv State.reset ∧ SupplyInv State.reset ∧ TokenInv State.reset ∧ CurrentInv State.reset ∧ TableInv State.reset)

/-- Reset (R189 and the reset rules of the chapters, R76, R94, R182, R188): at the end of its response a FULL reset leaves every block as power-on does, but for
the swipe clock, the readings, the block and a store operation in flight; a LANE reset, commanded or at the 250 ms of a break, empties the
queues, the sales, the requests, the line lists and the buffers, withdraws every request and ends every grant, and keeps the rate, the
parameters, the tables, the counters, the indicators and the calibration. That the reports of a reset come in this order (log 9), that
the levels and readings taken at it raise no event (log 32), that a frame cut short leaves a remnant in transmission (log 15), that the
interval list is then empty and the overflow mark clear (log 49), that a cut feed remaining of none is held as 0 (log 50), and that values
without a meaning in the state of the drawer or the lamps stand at 0 (log 36), is the model's choice. -/
def Obligations.ResetsLeaveWhatTheyKeep : Prop :=
  (∀ (levels : InputLevels) (s : State) (r : Response) (cal : Option CalRecord), s.powered = true →
    s.port.tx = some (.response r) → r.after = .fullReset →
    (∀ op, s.store.inFlight = some op → cal = some op.image) → (s.store.inFlight = none → cal = s.store.copy) →
    Runs (.frameTransmitEnd levels) s fun t =>
      t = { s with
        clock := ⟨0, 0, s.clock.swipeClock, true⟩, inputs := levels, mgmt := .fresh, scale := .fresh cal, scan := scanAtReset
        swipe := swipeAtReset s.clock.swipeClock 0, sales := .fresh, drawer := .fresh levels.sense 0
        printer := .fresh levels s.printer.temp, supply := .fresh 2000 s.supply.volts
        store := { s.store with
          sealSwitch := levels.sealSwitch, inFlight := s.store.inFlight.map fun op => { op with afterFull := true } }
        port := { portAtReset with
          tx := some (.report (.scaleState (scaleStateOf t)))
          reports := [.drawerState (drawerStateOf t), .printerState (printerStateOf t)] } }
      ∧ ∀ (volts : BitVec 16) (v : State), volts.toNat = s.supply.volts →
          exec (.powerOn levels volts s.printer.temp) s = .next v →
          t.mgmt = v.mgmt ∧ t.scan = v.scan ∧ t.sales = v.sales ∧ t.drawer = v.drawer ∧ t.printer = v.printer ∧ t.supply = v.supply
          ∧ (s.store.block.bind readImage = cal → t.scale = v.scale ∧ t.port = v.port))
  ∧ (∀ (levels : InputLevels) (s : State) (r : Response), s.powered = true → s.port.tx = some (.response r) →
      r.after = .laneReset →
      exec (.frameTransmitEnd levels) s = exec (.linkBreak levels) { s with port := { s.port with tx := none } })
  ∧ ∀ (levels : InputLevels) (s : State), s.powered = true → Runs (.linkBreak levels) s fun t =>
      t = { s with
        inputs := levels, scan := scanAtReset, swipe := swipeAtReset s.clock.swipeClock s.swipe.counter
        scale := { s.scale with
          queue := [], outcomes := [], passedOver := none, liveMemory := none, liveWaits := true
          shockEnd := if s.supply.solGrant.isSome = true then some (s.clock.laneTime + 300) else s.scale.shockEnd
          disturbed := t.scale.disturbed }
        sales := { slot0 := none, slot1 := none, nextSale := s.sales.nextSale, nextToken := s.sales.nextToken, turnKept := false, reports := [] }
        drawer := .fresh levels.sense s.clock.laneTime, printer := .fresh levels s.printer.temp
        supply := {
          budget := s.supply.pendingBudget.getD s.supply.budget, pendingBudget := none, solRequest := none, solGrant := none
          prnRequest := none, prnGrant := none, quiet := false, low := decide (s.supply.volts < 6000), volts := s.supply.volts }
        port := { portAtReset with
          rate := s.port.rate, counters := s.port.counters, tx := t.port.tx, reports := t.port.reports } }
      ∧ (s.port.tx.isSome = true → t.port.tx = some .remnant
        ∧ t.port.reports = [.drawerState (drawerStateOf t), .printerState (printerStateOf t)])
      ∧ (s.port.tx = none → t.port.tx = some (.report (.drawerState (drawerStateOf t)))
        ∧ t.port.reports = [.printerState (printerStateOf t)])
      ∧ ∀ (volts : BitVec 16) (v : State), exec (.powerOn levels volts s.printer.temp) s = .next v →
          t.printer = v.printer
          ∧ t.drawer = { v.drawer with openTime := if levels.sense = .opened then s.clock.laneTime else 0 }

/-- Every step keeps the queues of the link within their places (R180, R182) and each STATE kind to one unsent report (R183). It leaves no
report waiting but behind a full queue (R182), and the transmitter sending while anything is to be sent (R181); from a frame in
transmission the queue is full then, whichever row the step performs. -/
def Obligations.EveryStepKeepsTheLinkQueues : Prop :=
  (∀ s t : State, LinkInv s → step s = .next t → LinkInv t)
  ∧ (∀ s t : State, AdmissionInv s → step s = .next t → AdmissionInv t)
  ∧ ∀ s t : State, s.port.tx.isSome = true → 24 ≤ s.port.reports.length ∨ nothingWaits s = true → step s = .next t →
      24 ≤ t.port.reports.length ∨ nothingWaits t = true

/-- Every step keeps the active grants within the budget in force (R160), and under quiet demand the printer grant outside the conversion
windows (R161). -/
def Obligations.EveryStepKeepsTheGrantsWithinTheBudget : Prop :=
  ∀ s t : State, SupplyInv s → step s = .next t → SupplyInv t

/-- Every step keeps each token's net weight the difference of its gross and its tare and at least 1 g (R56), at most one sale OPEN or
TENDERING (R108), and the entries of each table at rising indices of that table, at most one at an index (R185). -/
def Obligations.EveryStepKeepsTokensAndTheCurrentSale : Prop :=
  ∀ s t : State, step s = .next t → (TokenInv s → TokenInv t) ∧ (CurrentInv s → CurrentInv t) ∧ (TableInv s → TableInv t)
end

