-- ==== Sys2Proof/Config.lean ====
section
/-! DEFINITION. What an implementation of the part fixes and the spec leaves open: free values, each a constant without a body. -/

namespace Sys2Proof.Config

/-- FREE VALUE (log 20): what the revision number of the part is taken from. R187 fixes only that the number is 1 to 255. -/
opaque revisionSeed : Nat

/-- The revision number that Identify carries, "1 to 255, fixed in the part" (R187). -/
def revision : Nat := revisionSeed % 255 + 1

/-- FREE VALUE (log 19): the characters that carry a head temperature in PRINTER_STATE. R155 names the field; R190 and the
layouts of 13.4 give it neither a size nor a kind. -/
opaque temperatureField : Int → List Byte

end Sys2Proof.Config
end

