-- ==== Sys2Proof/Laws/State.lean ====
section
/-! SUPPORT. One lemma for each field of the state under each update of one block. -/

namespace Sys2Proof.Machine

/-! ## `State.modClock` -/

@[simp] theorem State.modClock_powered (f : Clock → Clock) (s : State) : (s.modClock f).powered = s.powered := rfl
@[simp] theorem State.modClock_clock (f : Clock → Clock) (s : State) : (s.modClock f).clock = f s.clock := rfl
@[simp] theorem State.modClock_inputs (f : Clock → Clock) (s : State) : (s.modClock f).inputs = s.inputs := rfl
@[simp] theorem State.modClock_port (f : Clock → Clock) (s : State) : (s.modClock f).port = s.port := rfl
@[simp] theorem State.modClock_mgmt (f : Clock → Clock) (s : State) : (s.modClock f).mgmt = s.mgmt := rfl
@[simp] theorem State.modClock_scale (f : Clock → Clock) (s : State) : (s.modClock f).scale = s.scale := rfl
@[simp] theorem State.modClock_store (f : Clock → Clock) (s : State) : (s.modClock f).store = s.store := rfl
@[simp] theorem State.modClock_scan (f : Clock → Clock) (s : State) : (s.modClock f).scan = s.scan := rfl
@[simp] theorem State.modClock_swipe (f : Clock → Clock) (s : State) : (s.modClock f).swipe = s.swipe := rfl
@[simp] theorem State.modClock_sales (f : Clock → Clock) (s : State) : (s.modClock f).sales = s.sales := rfl
@[simp] theorem State.modClock_drawer (f : Clock → Clock) (s : State) : (s.modClock f).drawer = s.drawer := rfl
@[simp] theorem State.modClock_printer (f : Clock → Clock) (s : State) : (s.modClock f).printer = s.printer := rfl
@[simp] theorem State.modClock_supply (f : Clock → Clock) (s : State) : (s.modClock f).supply = s.supply := rfl
@[simp] theorem State.modClock_pending (f : Clock → Clock) (s : State) : (s.modClock f).pending = s.pending := rfl

/-! ## `State.modPort` -/

@[simp] theorem State.modPort_powered (f : Port → Port) (s : State) : (s.modPort f).powered = s.powered := rfl
@[simp] theorem State.modPort_clock (f : Port → Port) (s : State) : (s.modPort f).clock = s.clock := rfl
@[simp] theorem State.modPort_inputs (f : Port → Port) (s : State) : (s.modPort f).inputs = s.inputs := rfl
@[simp] theorem State.modPort_port (f : Port → Port) (s : State) : (s.modPort f).port = f s.port := rfl
@[simp] theorem State.modPort_mgmt (f : Port → Port) (s : State) : (s.modPort f).mgmt = s.mgmt := rfl
@[simp] theorem State.modPort_scale (f : Port → Port) (s : State) : (s.modPort f).scale = s.scale := rfl
@[simp] theorem State.modPort_store (f : Port → Port) (s : State) : (s.modPort f).store = s.store := rfl
@[simp] theorem State.modPort_scan (f : Port → Port) (s : State) : (s.modPort f).scan = s.scan := rfl
@[simp] theorem State.modPort_swipe (f : Port → Port) (s : State) : (s.modPort f).swipe = s.swipe := rfl
@[simp] theorem State.modPort_sales (f : Port → Port) (s : State) : (s.modPort f).sales = s.sales := rfl
@[simp] theorem State.modPort_drawer (f : Port → Port) (s : State) : (s.modPort f).drawer = s.drawer := rfl
@[simp] theorem State.modPort_printer (f : Port → Port) (s : State) : (s.modPort f).printer = s.printer := rfl
@[simp] theorem State.modPort_supply (f : Port → Port) (s : State) : (s.modPort f).supply = s.supply := rfl
@[simp] theorem State.modPort_pending (f : Port → Port) (s : State) : (s.modPort f).pending = s.pending := rfl

/-! ## `State.modMgmt` -/

@[simp] theorem State.modMgmt_powered (f : Mgmt → Mgmt) (s : State) : (s.modMgmt f).powered = s.powered := rfl
@[simp] theorem State.modMgmt_clock (f : Mgmt → Mgmt) (s : State) : (s.modMgmt f).clock = s.clock := rfl
@[simp] theorem State.modMgmt_inputs (f : Mgmt → Mgmt) (s : State) : (s.modMgmt f).inputs = s.inputs := rfl
@[simp] theorem State.modMgmt_port (f : Mgmt → Mgmt) (s : State) : (s.modMgmt f).port = s.port := rfl
@[simp] theorem State.modMgmt_mgmt (f : Mgmt → Mgmt) (s : State) : (s.modMgmt f).mgmt = f s.mgmt := rfl
@[simp] theorem State.modMgmt_scale (f : Mgmt → Mgmt) (s : State) : (s.modMgmt f).scale = s.scale := rfl
@[simp] theorem State.modMgmt_store (f : Mgmt → Mgmt) (s : State) : (s.modMgmt f).store = s.store := rfl
@[simp] theorem State.modMgmt_scan (f : Mgmt → Mgmt) (s : State) : (s.modMgmt f).scan = s.scan := rfl
@[simp] theorem State.modMgmt_swipe (f : Mgmt → Mgmt) (s : State) : (s.modMgmt f).swipe = s.swipe := rfl
@[simp] theorem State.modMgmt_sales (f : Mgmt → Mgmt) (s : State) : (s.modMgmt f).sales = s.sales := rfl
@[simp] theorem State.modMgmt_drawer (f : Mgmt → Mgmt) (s : State) : (s.modMgmt f).drawer = s.drawer := rfl
@[simp] theorem State.modMgmt_printer (f : Mgmt → Mgmt) (s : State) : (s.modMgmt f).printer = s.printer := rfl
@[simp] theorem State.modMgmt_supply (f : Mgmt → Mgmt) (s : State) : (s.modMgmt f).supply = s.supply := rfl
@[simp] theorem State.modMgmt_pending (f : Mgmt → Mgmt) (s : State) : (s.modMgmt f).pending = s.pending := rfl

/-! ## `State.modScale` -/

@[simp] theorem State.modScale_powered (f : Scale → Scale) (s : State) : (s.modScale f).powered = s.powered := rfl
@[simp] theorem State.modScale_clock (f : Scale → Scale) (s : State) : (s.modScale f).clock = s.clock := rfl
@[simp] theorem State.modScale_inputs (f : Scale → Scale) (s : State) : (s.modScale f).inputs = s.inputs := rfl
@[simp] theorem State.modScale_port (f : Scale → Scale) (s : State) : (s.modScale f).port = s.port := rfl
@[simp] theorem State.modScale_mgmt (f : Scale → Scale) (s : State) : (s.modScale f).mgmt = s.mgmt := rfl
@[simp] theorem State.modScale_scale (f : Scale → Scale) (s : State) : (s.modScale f).scale = f s.scale := rfl
@[simp] theorem State.modScale_store (f : Scale → Scale) (s : State) : (s.modScale f).store = s.store := rfl
@[simp] theorem State.modScale_scan (f : Scale → Scale) (s : State) : (s.modScale f).scan = s.scan := rfl
@[simp] theorem State.modScale_swipe (f : Scale → Scale) (s : State) : (s.modScale f).swipe = s.swipe := rfl
@[simp] theorem State.modScale_sales (f : Scale → Scale) (s : State) : (s.modScale f).sales = s.sales := rfl
@[simp] theorem State.modScale_drawer (f : Scale → Scale) (s : State) : (s.modScale f).drawer = s.drawer := rfl
@[simp] theorem State.modScale_printer (f : Scale → Scale) (s : State) : (s.modScale f).printer = s.printer := rfl
@[simp] theorem State.modScale_supply (f : Scale → Scale) (s : State) : (s.modScale f).supply = s.supply := rfl
@[simp] theorem State.modScale_pending (f : Scale → Scale) (s : State) : (s.modScale f).pending = s.pending := rfl

/-! ## `State.modStore` -/

@[simp] theorem State.modStore_powered (f : Store → Store) (s : State) : (s.modStore f).powered = s.powered := rfl
@[simp] theorem State.modStore_clock (f : Store → Store) (s : State) : (s.modStore f).clock = s.clock := rfl
@[simp] theorem State.modStore_inputs (f : Store → Store) (s : State) : (s.modStore f).inputs = s.inputs := rfl
@[simp] theorem State.modStore_port (f : Store → Store) (s : State) : (s.modStore f).port = s.port := rfl
@[simp] theorem State.modStore_mgmt (f : Store → Store) (s : State) : (s.modStore f).mgmt = s.mgmt := rfl
@[simp] theorem State.modStore_scale (f : Store → Store) (s : State) : (s.modStore f).scale = s.scale := rfl
@[simp] theorem State.modStore_store (f : Store → Store) (s : State) : (s.modStore f).store = f s.store := rfl
@[simp] theorem State.modStore_scan (f : Store → Store) (s : State) : (s.modStore f).scan = s.scan := rfl
@[simp] theorem State.modStore_swipe (f : Store → Store) (s : State) : (s.modStore f).swipe = s.swipe := rfl
@[simp] theorem State.modStore_sales (f : Store → Store) (s : State) : (s.modStore f).sales = s.sales := rfl
@[simp] theorem State.modStore_drawer (f : Store → Store) (s : State) : (s.modStore f).drawer = s.drawer := rfl
@[simp] theorem State.modStore_printer (f : Store → Store) (s : State) : (s.modStore f).printer = s.printer := rfl
@[simp] theorem State.modStore_supply (f : Store → Store) (s : State) : (s.modStore f).supply = s.supply := rfl
@[simp] theorem State.modStore_pending (f : Store → Store) (s : State) : (s.modStore f).pending = s.pending := rfl

/-! ## `State.modScan` -/

@[simp] theorem State.modScan_powered (f : Scan → Scan) (s : State) : (s.modScan f).powered = s.powered := rfl
@[simp] theorem State.modScan_clock (f : Scan → Scan) (s : State) : (s.modScan f).clock = s.clock := rfl
@[simp] theorem State.modScan_inputs (f : Scan → Scan) (s : State) : (s.modScan f).inputs = s.inputs := rfl
@[simp] theorem State.modScan_port (f : Scan → Scan) (s : State) : (s.modScan f).port = s.port := rfl
@[simp] theorem State.modScan_mgmt (f : Scan → Scan) (s : State) : (s.modScan f).mgmt = s.mgmt := rfl
@[simp] theorem State.modScan_scale (f : Scan → Scan) (s : State) : (s.modScan f).scale = s.scale := rfl
@[simp] theorem State.modScan_store (f : Scan → Scan) (s : State) : (s.modScan f).store = s.store := rfl
@[simp] theorem State.modScan_scan (f : Scan → Scan) (s : State) : (s.modScan f).scan = f s.scan := rfl
@[simp] theorem State.modScan_swipe (f : Scan → Scan) (s : State) : (s.modScan f).swipe = s.swipe := rfl
@[simp] theorem State.modScan_sales (f : Scan → Scan) (s : State) : (s.modScan f).sales = s.sales := rfl
@[simp] theorem State.modScan_drawer (f : Scan → Scan) (s : State) : (s.modScan f).drawer = s.drawer := rfl
@[simp] theorem State.modScan_printer (f : Scan → Scan) (s : State) : (s.modScan f).printer = s.printer := rfl
@[simp] theorem State.modScan_supply (f : Scan → Scan) (s : State) : (s.modScan f).supply = s.supply := rfl
@[simp] theorem State.modScan_pending (f : Scan → Scan) (s : State) : (s.modScan f).pending = s.pending := rfl

/-! ## `State.modSwipe` -/

@[simp] theorem State.modSwipe_powered (f : Swipe → Swipe) (s : State) : (s.modSwipe f).powered = s.powered := rfl
@[simp] theorem State.modSwipe_clock (f : Swipe → Swipe) (s : State) : (s.modSwipe f).clock = s.clock := rfl
@[simp] theorem State.modSwipe_inputs (f : Swipe → Swipe) (s : State) : (s.modSwipe f).inputs = s.inputs := rfl
@[simp] theorem State.modSwipe_port (f : Swipe → Swipe) (s : State) : (s.modSwipe f).port = s.port := rfl
@[simp] theorem State.modSwipe_mgmt (f : Swipe → Swipe) (s : State) : (s.modSwipe f).mgmt = s.mgmt := rfl
@[simp] theorem State.modSwipe_scale (f : Swipe → Swipe) (s : State) : (s.modSwipe f).scale = s.scale := rfl
@[simp] theorem State.modSwipe_store (f : Swipe → Swipe) (s : State) : (s.modSwipe f).store = s.store := rfl
@[simp] theorem State.modSwipe_scan (f : Swipe → Swipe) (s : State) : (s.modSwipe f).scan = s.scan := rfl
@[simp] theorem State.modSwipe_swipe (f : Swipe → Swipe) (s : State) : (s.modSwipe f).swipe = f s.swipe := rfl
@[simp] theorem State.modSwipe_sales (f : Swipe → Swipe) (s : State) : (s.modSwipe f).sales = s.sales := rfl
@[simp] theorem State.modSwipe_drawer (f : Swipe → Swipe) (s : State) : (s.modSwipe f).drawer = s.drawer := rfl
@[simp] theorem State.modSwipe_printer (f : Swipe → Swipe) (s : State) : (s.modSwipe f).printer = s.printer := rfl
@[simp] theorem State.modSwipe_supply (f : Swipe → Swipe) (s : State) : (s.modSwipe f).supply = s.supply := rfl
@[simp] theorem State.modSwipe_pending (f : Swipe → Swipe) (s : State) : (s.modSwipe f).pending = s.pending := rfl

/-! ## `State.modSales` -/

@[simp] theorem State.modSales_powered (f : Sales → Sales) (s : State) : (s.modSales f).powered = s.powered := rfl
@[simp] theorem State.modSales_clock (f : Sales → Sales) (s : State) : (s.modSales f).clock = s.clock := rfl
@[simp] theorem State.modSales_inputs (f : Sales → Sales) (s : State) : (s.modSales f).inputs = s.inputs := rfl
@[simp] theorem State.modSales_port (f : Sales → Sales) (s : State) : (s.modSales f).port = s.port := rfl
@[simp] theorem State.modSales_mgmt (f : Sales → Sales) (s : State) : (s.modSales f).mgmt = s.mgmt := rfl
@[simp] theorem State.modSales_scale (f : Sales → Sales) (s : State) : (s.modSales f).scale = s.scale := rfl
@[simp] theorem State.modSales_store (f : Sales → Sales) (s : State) : (s.modSales f).store = s.store := rfl
@[simp] theorem State.modSales_scan (f : Sales → Sales) (s : State) : (s.modSales f).scan = s.scan := rfl
@[simp] theorem State.modSales_swipe (f : Sales → Sales) (s : State) : (s.modSales f).swipe = s.swipe := rfl
@[simp] theorem State.modSales_sales (f : Sales → Sales) (s : State) : (s.modSales f).sales = f s.sales := rfl
@[simp] theorem State.modSales_drawer (f : Sales → Sales) (s : State) : (s.modSales f).drawer = s.drawer := rfl
@[simp] theorem State.modSales_printer (f : Sales → Sales) (s : State) : (s.modSales f).printer = s.printer := rfl
@[simp] theorem State.modSales_supply (f : Sales → Sales) (s : State) : (s.modSales f).supply = s.supply := rfl
@[simp] theorem State.modSales_pending (f : Sales → Sales) (s : State) : (s.modSales f).pending = s.pending := rfl

/-! ## `State.modDrawer` -/

@[simp] theorem State.modDrawer_powered (f : Drawer → Drawer) (s : State) : (s.modDrawer f).powered = s.powered := rfl
@[simp] theorem State.modDrawer_clock (f : Drawer → Drawer) (s : State) : (s.modDrawer f).clock = s.clock := rfl
@[simp] theorem State.modDrawer_inputs (f : Drawer → Drawer) (s : State) : (s.modDrawer f).inputs = s.inputs := rfl
@[simp] theorem State.modDrawer_port (f : Drawer → Drawer) (s : State) : (s.modDrawer f).port = s.port := rfl
@[simp] theorem State.modDrawer_mgmt (f : Drawer → Drawer) (s : State) : (s.modDrawer f).mgmt = s.mgmt := rfl
@[simp] theorem State.modDrawer_scale (f : Drawer → Drawer) (s : State) : (s.modDrawer f).scale = s.scale := rfl
@[simp] theorem State.modDrawer_store (f : Drawer → Drawer) (s : State) : (s.modDrawer f).store = s.store := rfl
@[simp] theorem State.modDrawer_scan (f : Drawer → Drawer) (s : State) : (s.modDrawer f).scan = s.scan := rfl
@[simp] theorem State.modDrawer_swipe (f : Drawer → Drawer) (s : State) : (s.modDrawer f).swipe = s.swipe := rfl
@[simp] theorem State.modDrawer_sales (f : Drawer → Drawer) (s : State) : (s.modDrawer f).sales = s.sales := rfl
@[simp] theorem State.modDrawer_drawer (f : Drawer → Drawer) (s : State) : (s.modDrawer f).drawer = f s.drawer := rfl
@[simp] theorem State.modDrawer_printer (f : Drawer → Drawer) (s : State) : (s.modDrawer f).printer = s.printer := rfl
@[simp] theorem State.modDrawer_supply (f : Drawer → Drawer) (s : State) : (s.modDrawer f).supply = s.supply := rfl
@[simp] theorem State.modDrawer_pending (f : Drawer → Drawer) (s : State) : (s.modDrawer f).pending = s.pending := rfl

/-! ## `State.modPrinter` -/

@[simp] theorem State.modPrinter_powered (f : Printer → Printer) (s : State) : (s.modPrinter f).powered = s.powered := rfl
@[simp] theorem State.modPrinter_clock (f : Printer → Printer) (s : State) : (s.modPrinter f).clock = s.clock := rfl
@[simp] theorem State.modPrinter_inputs (f : Printer → Printer) (s : State) : (s.modPrinter f).inputs = s.inputs := rfl
@[simp] theorem State.modPrinter_port (f : Printer → Printer) (s : State) : (s.modPrinter f).port = s.port := rfl
@[simp] theorem State.modPrinter_mgmt (f : Printer → Printer) (s : State) : (s.modPrinter f).mgmt = s.mgmt := rfl
@[simp] theorem State.modPrinter_scale (f : Printer → Printer) (s : State) : (s.modPrinter f).scale = s.scale := rfl
@[simp] theorem State.modPrinter_store (f : Printer → Printer) (s : State) : (s.modPrinter f).store = s.store := rfl
@[simp] theorem State.modPrinter_scan (f : Printer → Printer) (s : State) : (s.modPrinter f).scan = s.scan := rfl
@[simp] theorem State.modPrinter_swipe (f : Printer → Printer) (s : State) : (s.modPrinter f).swipe = s.swipe := rfl
@[simp] theorem State.modPrinter_sales (f : Printer → Printer) (s : State) : (s.modPrinter f).sales = s.sales := rfl
@[simp] theorem State.modPrinter_drawer (f : Printer → Printer) (s : State) : (s.modPrinter f).drawer = s.drawer := rfl
@[simp] theorem State.modPrinter_printer (f : Printer → Printer) (s : State) : (s.modPrinter f).printer = f s.printer := rfl
@[simp] theorem State.modPrinter_supply (f : Printer → Printer) (s : State) : (s.modPrinter f).supply = s.supply := rfl
@[simp] theorem State.modPrinter_pending (f : Printer → Printer) (s : State) : (s.modPrinter f).pending = s.pending := rfl

/-! ## `State.modSupply` -/

@[simp] theorem State.modSupply_powered (f : Supply → Supply) (s : State) : (s.modSupply f).powered = s.powered := rfl
@[simp] theorem State.modSupply_clock (f : Supply → Supply) (s : State) : (s.modSupply f).clock = s.clock := rfl
@[simp] theorem State.modSupply_inputs (f : Supply → Supply) (s : State) : (s.modSupply f).inputs = s.inputs := rfl
@[simp] theorem State.modSupply_port (f : Supply → Supply) (s : State) : (s.modSupply f).port = s.port := rfl
@[simp] theorem State.modSupply_mgmt (f : Supply → Supply) (s : State) : (s.modSupply f).mgmt = s.mgmt := rfl
@[simp] theorem State.modSupply_scale (f : Supply → Supply) (s : State) : (s.modSupply f).scale = s.scale := rfl
@[simp] theorem State.modSupply_store (f : Supply → Supply) (s : State) : (s.modSupply f).store = s.store := rfl
@[simp] theorem State.modSupply_scan (f : Supply → Supply) (s : State) : (s.modSupply f).scan = s.scan := rfl
@[simp] theorem State.modSupply_swipe (f : Supply → Supply) (s : State) : (s.modSupply f).swipe = s.swipe := rfl
@[simp] theorem State.modSupply_sales (f : Supply → Supply) (s : State) : (s.modSupply f).sales = s.sales := rfl
@[simp] theorem State.modSupply_drawer (f : Supply → Supply) (s : State) : (s.modSupply f).drawer = s.drawer := rfl
@[simp] theorem State.modSupply_printer (f : Supply → Supply) (s : State) : (s.modSupply f).printer = s.printer := rfl
@[simp] theorem State.modSupply_supply (f : Supply → Supply) (s : State) : (s.modSupply f).supply = f s.supply := rfl
@[simp] theorem State.modSupply_pending (f : Supply → Supply) (s : State) : (s.modSupply f).pending = s.pending := rfl

/-- Two states that agree in every field. -/
theorem State.eq_of {s t : State}
    (powered : s.powered = t.powered)
    (clock : s.clock = t.clock)
    (inputs : s.inputs = t.inputs)
    (port : s.port = t.port)
    (mgmt : s.mgmt = t.mgmt)
    (scale : s.scale = t.scale)
    (store : s.store = t.store)
    (scan : s.scan = t.scan)
    (swipe : s.swipe = t.swipe)
    (sales : s.sales = t.sales)
    (drawer : s.drawer = t.drawer)
    (printer : s.printer = t.printer)
    (supply : s.supply = t.supply)
    (pending : s.pending = t.pending) : s = t := by
  cases s; cases t; simp_all

end Sys2Proof.Machine
end

