-- ==== Sys2Proof/Laws/Frame.lean ====
section
/-! SUPPORT. Which blocks of the state a part of the machine may change: the relation `Touches`, its composition, and what it gives
for each block. -/

namespace Sys2Proof.Machine

/-- The blocks of the state that a meaning may change; the supply and the queue of commands are none of them. -/
inductive Block where
  | clock | inputs | port | mgmt | scale | store
  | scan | swipe | sales | drawer | printer | supply
deriving DecidableEq, Repr

/-- A state that agrees with an earlier one everywhere but in the blocks listed. -/
structure Touches (ks : List Block) (s t : State) : Prop where
  powered : t.powered = s.powered
  pending : t.pending = s.pending
  clock : Block.clock ∉ ks → t.clock = s.clock
  inputs : Block.inputs ∉ ks → t.inputs = s.inputs
  port : Block.port ∉ ks → t.port = s.port
  mgmt : Block.mgmt ∉ ks → t.mgmt = s.mgmt
  scale : Block.scale ∉ ks → t.scale = s.scale
  store : Block.store ∉ ks → t.store = s.store
  scan : Block.scan ∉ ks → t.scan = s.scan
  swipe : Block.swipe ∉ ks → t.swipe = s.swipe
  sales : Block.sales ∉ ks → t.sales = s.sales
  drawer : Block.drawer ∉ ks → t.drawer = s.drawer
  printer : Block.printer ∉ ks → t.printer = s.printer
  supply : Block.supply ∉ ks → t.supply = s.supply

namespace Touches

theorem refl (ks : List Block) (s : State) : Touches ks s s := by constructor <;> intros <;> rfl

theorem trans {ks ls : List Block} {s t u : State} (h : Touches ks s t) (g : Touches ls t u) : Touches (ks ++ ls) s u := by
  constructor
  · rw [g.powered, h.powered]
  · rw [g.pending, h.pending]
  · intro n; rw [List.mem_append, not_or] at n; rw [g.clock n.2, h.clock n.1]
  · intro n; rw [List.mem_append, not_or] at n; rw [g.inputs n.2, h.inputs n.1]
  · intro n; rw [List.mem_append, not_or] at n; rw [g.port n.2, h.port n.1]
  · intro n; rw [List.mem_append, not_or] at n; rw [g.mgmt n.2, h.mgmt n.1]
  · intro n; rw [List.mem_append, not_or] at n; rw [g.scale n.2, h.scale n.1]
  · intro n; rw [List.mem_append, not_or] at n; rw [g.store n.2, h.store n.1]
  · intro n; rw [List.mem_append, not_or] at n; rw [g.scan n.2, h.scan n.1]
  · intro n; rw [List.mem_append, not_or] at n; rw [g.swipe n.2, h.swipe n.1]
  · intro n; rw [List.mem_append, not_or] at n; rw [g.sales n.2, h.sales n.1]
  · intro n; rw [List.mem_append, not_or] at n; rw [g.drawer n.2, h.drawer n.1]
  · intro n; rw [List.mem_append, not_or] at n; rw [g.printer n.2, h.printer n.1]
  · intro n; rw [List.mem_append, not_or] at n; rw [g.supply n.2, h.supply n.1]

theorem mono {ks ls : List Block} {s t : State} (h : Touches ks s t) (sub : ∀ k ∈ ks, k ∈ ls) : Touches ls s t := by
  constructor
  · exact h.powered
  · exact h.pending
  · exact fun n => h.clock fun m => n (sub _ m)
  · exact fun n => h.inputs fun m => n (sub _ m)
  · exact fun n => h.port fun m => n (sub _ m)
  · exact fun n => h.mgmt fun m => n (sub _ m)
  · exact fun n => h.scale fun m => n (sub _ m)
  · exact fun n => h.store fun m => n (sub _ m)
  · exact fun n => h.scan fun m => n (sub _ m)
  · exact fun n => h.swipe fun m => n (sub _ m)
  · exact fun n => h.sales fun m => n (sub _ m)
  · exact fun n => h.drawer fun m => n (sub _ m)
  · exact fun n => h.printer fun m => n (sub _ m)
  · exact fun n => h.supply fun m => n (sub _ m)

/-- Two parts that each stay within a list of blocks, one after the other. -/
theorem seq {ks : List Block} {s t u : State} (h : Touches ks s t) (g : Touches ks t u) : Touches ks s u :=
  (h.trans g).mono fun _ m => (List.mem_append.mp m).elim id id

/-- A part that stays within a list of blocks stays within any list that holds them. -/
theorem within {ks ls : List Block} {s t : State} (h : Touches ks s t) (sub : (ks.all fun k => ls.contains k) = true) :
    Touches ls s t :=
  h.mono fun k m => by simpa using List.all_eq_true.mp sub k m

/-- One part and then another, each within its own list. -/
theorem next {ks ls ms : List Block} {s t u : State} (h : Touches ks s t) (g : Touches ls t u)
    (hk : (ks.all fun k => ms.contains k) = true) (hl : (ls.all fun k => ms.contains k) = true) : Touches ms s u :=
  (h.within hk).seq (g.within hl)

end Touches

theorem State.modClock_touches (f : Clock → Clock) (s : State) : Touches [.clock] s (s.modClock f) := by
  constructor <;> simp
theorem State.modPort_touches (f : Port → Port) (s : State) : Touches [.port] s (s.modPort f) := by
  constructor <;> simp
theorem State.modMgmt_touches (f : Mgmt → Mgmt) (s : State) : Touches [.mgmt] s (s.modMgmt f) := by
  constructor <;> simp
theorem State.modScale_touches (f : Scale → Scale) (s : State) : Touches [.scale] s (s.modScale f) := by
  constructor <;> simp
theorem State.modStore_touches (f : Store → Store) (s : State) : Touches [.store] s (s.modStore f) := by
  constructor <;> simp
theorem State.modScan_touches (f : Scan → Scan) (s : State) : Touches [.scan] s (s.modScan f) := by
  constructor <;> simp
theorem State.modSwipe_touches (f : Swipe → Swipe) (s : State) : Touches [.swipe] s (s.modSwipe f) := by
  constructor <;> simp
theorem State.modSales_touches (f : Sales → Sales) (s : State) : Touches [.sales] s (s.modSales f) := by
  constructor <;> simp
theorem State.modDrawer_touches (f : Drawer → Drawer) (s : State) : Touches [.drawer] s (s.modDrawer f) := by
  constructor <;> simp
theorem State.modPrinter_touches (f : Printer → Printer) (s : State) : Touches [.printer] s (s.modPrinter f) := by
  constructor <;> simp
theorem State.modSupply_touches (f : Supply → Supply) (s : State) : Touches [.supply] s (s.modSupply f) := by
  constructor <;> simp

end Sys2Proof.Machine
end

