-- ==== Sys2Proof/Laws/Ops.lean ====
section
/-! SUPPORT. What the shared operations can do: for each, the blocks that it may change, and for the link, the reports and the
reactions, everything else that later proofs cite. -/

namespace Sys2Proof.Machine

/-! ## Reports and counters -/

theorem enqueue_touches (r : Report) (s : State) : Touches [.port] s (enqueue r s) := State.modPort_touches _ _

theorem offerWeight_touches (r : WeightReport) (s : State) : Touches [.port, .scale] s (offerWeight r s) := by
  unfold offerWeight; split
  · exact (enqueue_touches _ _).within rfl
  · exact (State.modScale_touches _ _).within rfl

theorem offerScan_touches (r : ScanReport) (s : State) : Touches [.port, .scan] s (offerScan r s) := by
  unfold offerScan; split
  · exact (enqueue_touches _ _).within rfl
  · exact (State.modScan_touches _ _).within rfl

theorem offerCard_touches (r : CardReport) (s : State) : Touches [.port, .swipe] s (offerCard r s) := by
  unfold offerCard; split
  · exact (enqueue_touches _ _).within rfl
  · exact (State.modSwipe_touches _ _).within rfl

theorem offerSale_touches (r : SaleReport) (s : State) : Touches [.port, .sales] s (offerSale r s) := by
  unfold offerSale; split
  · exact (enqueue_touches _ _).within rfl
  · exact (State.modSales_touches _ _).within rfl

theorem offerDrawer_touches (r : DrawerReport) (s : State) : Touches [.port, .drawer] s (offerDrawer r s) := by
  unfold offerDrawer; split
  · exact (enqueue_touches _ _).within rfl
  · exact (State.modDrawer_touches _ _).within rfl

theorem offerPrinter_touches (r : PrinterReport) (s : State) : Touches [.port, .printer] s (offerPrinter r s) := by
  unfold offerPrinter; split
  · exact (enqueue_touches _ _).within rfl
  · exact (State.modPrinter_touches _ _).within rfl

theorem placeState_touches (k : StateKind) (r : Report) (b : Bool) (f : Port → Port) (s : State) :
    Touches [.port] s (placeState k r b f s) := by
  unfold placeState
  split
  · exact State.modPort_touches _ _
  · split
    · exact State.modPort_touches _ _
    · split
      · exact enqueue_touches _ _
      · exact State.modPort_touches _ _

theorem formScaleState_touches (s : State) : Touches [.port] s (formScaleState s) := placeState_touches _ _ _ _ _
theorem formLive_touches (s : State) : Touches [.port] s (formLive s) := placeState_touches _ _ _ _ _
theorem formDrawerState_touches (s : State) : Touches [.port] s (formDrawerState s) := placeState_touches _ _ _ _ _
theorem formPrinterState_touches (s : State) : Touches [.port] s (formPrinterState s) := placeState_touches _ _ _ _ _
theorem count_touches (f : LaneCounters → LaneCounters) (s : State) : Touches [.mgmt] s (count f s) := State.modMgmt_touches _ _
theorem countLink_touches (f : LinkCounters → LinkCounters) (s : State) : Touches [.port] s (countLink f s) :=
  State.modPort_touches _ _
theorem beep_touches (n : Nat) (s : State) : Touches [.mgmt] s (beep n s) := State.modMgmt_touches _ _

/-! ## Holds and reactions -/

theorem setSwipeHolds_touches (a b : Bool) (s : State) : Touches [.mgmt, .swipe] s (setSwipeHolds a b s) := by
  simp only [setSwipeHolds]
  split
  · split
    · exact (State.modSwipe_touches _ _).next (count_touches _ _) rfl rfl
    · exact (State.modSwipe_touches _ _).within rfl
  · split <;> exact (State.modSwipe_touches _ _).within rfl

theorem perform_touches (a : Action) (s : State) : Touches [.mgmt, .scan, .swipe] s (perform a s) := by
  cases a <;> simp only [perform]
  · exact (State.modMgmt_touches _ _).within rfl
  · exact (State.modMgmt_touches _ _).within rfl
  · exact (beep_touches _ _).within rfl
  · exact (State.modScan_touches _ _).within rfl
  · exact (State.modScan_touches _ _).within rfl
  · exact (setSwipeHolds_touches _ _ _).within rfl
  · exact (setSwipeHolds_touches _ _ _).within rfl

/-- What an action leaves of the Management node: parameters, tables and counters but swipes lost. -/
theorem perform_mgmt (a : Action) (s : State) :
    ∃ x y z n, (perform a s).mgmt =
      { s.mgmt with lampA := x, lampB := y, beeper := z, counters := { s.mgmt.counters with swipesLost := n } } := by
  cases a with
  | holdSwipe =>
    simp only [perform, setSwipeHolds]
    split
    · split <;> exact ⟨_, _, _, _, rfl⟩
    · split <;> exact ⟨_, _, _, _, rfl⟩
  | releaseSwipe =>
    simp only [perform, setSwipeHolds]
    split
    · split <;> exact ⟨_, _, _, _, rfl⟩
    · split <;> exact ⟨_, _, _, _, rfl⟩
  | _ => exact ⟨_, _, _, _, rfl⟩

/-- What an action leaves of the Scanner intake: everything but the hold reason REACTION. -/
theorem perform_scan (a : Action) (s : State) : ∃ h, (perform a s).scan = { s.scan with holdReaction := h } := by
  cases a with
  | holdSwipe =>
    exact ⟨s.scan.holdReaction, (setSwipeHolds_touches _ _ _).scan (by decide)⟩
  | releaseSwipe =>
    exact ⟨s.scan.holdReaction, (setSwipeHolds_touches _ _ _).scan (by decide)⟩
  | _ => exact ⟨_, rfl⟩

/-- What a change of the swipe hold reasons leaves of the Swipe decoder. -/
theorem setSwipeHolds_swipe (a b : Bool) (s : State) :
    ∃ c r, (setSwipeHolds a b s).swipe =
      { s.swipe with holdHost := a, holdReaction := b, capture := c, lastReversal := r } := by
  simp only [setSwipeHolds]
  split
  · split <;> exact ⟨_, _, rfl⟩
  · split <;> exact ⟨_, _, rfl⟩

/-- What an action leaves of the Swipe decoder. -/
theorem perform_swipe (a : Action) (s : State) :
    ∃ h c r, (perform a s).swipe = { s.swipe with holdReaction := h, capture := c, lastReversal := r } := by
  cases a with
  | holdSwipe =>
    obtain ⟨c, r, h⟩ := setSwipeHolds_swipe s.swipe.holdHost true s
    exact ⟨true, c, r, h⟩
  | releaseSwipe =>
    obtain ⟨c, r, h⟩ := setSwipeHolds_swipe s.swipe.holdHost false s
    exact ⟨false, c, r, h⟩
  | _ => exact ⟨_, _, _, rfl⟩

/-- Everything that an event can do (R171): it changes the lamps, the beeper, the REACTION hold reasons with the capture that hangs on
them, and the count of swipes lost. -/
structure Reacts (s t : State) : Prop where
  touches : Touches [.mgmt, .scan, .swipe] s t
  mgmt : ∃ x y z n, t.mgmt =
    { s.mgmt with lampA := x, lampB := y, beeper := z, counters := { s.mgmt.counters with swipesLost := n } }
  scan : ∃ h, t.scan = { s.scan with holdReaction := h }
  swipe : ∃ h c r, t.swipe = { s.swipe with holdReaction := h, capture := c, lastReversal := r }

theorem Reacts.refl (s : State) : Reacts s s := ⟨.refl _ _, ⟨_, _, _, _, rfl⟩, ⟨_, rfl⟩, ⟨_, _, _, rfl⟩⟩

theorem Reacts.trans {s t u : State} (h : Reacts s t) (g : Reacts t u) : Reacts s u := by
  refine ⟨h.touches.seq g.touches, ?_, ?_, ?_⟩
  · obtain ⟨x, y, z, n, e⟩ := h.mgmt
    obtain ⟨x', y', z', n', e'⟩ := g.mgmt
    exact ⟨x', y', z', n', by rw [e', e]⟩
  · obtain ⟨a, e⟩ := h.scan
    obtain ⟨a', e'⟩ := g.scan
    exact ⟨a', by rw [e', e]⟩
  · obtain ⟨a, c, r, e⟩ := h.swipe
    obtain ⟨a', c', r', e'⟩ := g.swipe
    exact ⟨a', c', r', by rw [e', e]⟩

theorem perform_reacts (a : Action) (s : State) : Reacts s (perform a s) :=
  ⟨perform_touches a s, perform_mgmt a s, perform_scan a s, perform_swipe a s⟩

theorem raiseEvent_reacts (e : SourceEvent) (s : State) : Reacts s (raiseEvent e s) := by
  unfold raiseEvent
  split
  · have go : ∀ (l : List (Nat × ReactionEntry)) (t : State),
        Reacts t (l.foldl (fun t p => if p.2.source = e then perform p.2.action t else t) t) := by
      intro l
      induction l with
      | nil => exact .refl
      | cons p rest ih =>
        intro t
        rw [List.foldl_cons]
        refine Reacts.trans ?_ (ih _)
        split
        · exact perform_reacts _ _
        · exact .refl _
    exact go _ _
  · exact .refl _

theorem raiseEvent_touches (e : SourceEvent) (s : State) : Touches [.mgmt, .scan, .swipe] s (raiseEvent e s) :=
  (raiseEvent_reacts e s).touches

/-! ## Sales -/

theorem changeSale_touches (slot : Nat) (target : SaleState) (c : SaleCause) (s : State) :
    Touches [.port, .sales] s (changeSale slot target c s) := by
  unfold changeSale
  split
  · exact .refl _ _
  · exact (State.modSales_touches _ _).next (offerSale_touches _ _) rfl rfl

/-! ## The Supply arbiter -/

theorem reformAllowance_touches (s : State) : Touches [.printer] s (reformAllowance s) := State.modPrinter_touches _ _

theorem placeRequest_touches (r : Request) (s : State) : Touches [.supply] s (placeRequest r s) := State.modSupply_touches _ _

theorem endShot_touches (s : State) : Touches [.printer] s (endShot s) := State.modPrinter_touches _ _

/-- Without a STROBE grant no dot is heated (R146). -/
theorem heatedDots_eq_zero {s : State} (h : ∀ g, s.supply.prnGrant = some g → g.kind ≠ .strobe) : heatedDots s = 0 := by
  unfold heatedDots
  cases e : s.supply.prnGrant with
  | none => rfl
  | some g => simp [h g e]

/-- Under a STROBE grant the line's shot is heated (R146). -/
theorem heatedDots_eq_shot {s : State} {g : Grant} {l : Line} {shot : Dots} (hg : s.supply.prnGrant = some g) (hk : g.kind = .strobe)
    (hl : s.printer.line = some l) (hs : l.shot = some shot) : heatedDots s = shot := by
  simp [heatedDots, hg, hk, hl, hs]

theorem requestShot_touches (l : Line) (s : State) : Touches [.printer, .supply] s (requestShot l s) := by
  unfold requestShot
  split
  · exact .refl _ _
  · exact (State.modPrinter_touches _ _).next (placeRequest_touches _ _) rfl rfl

/-- Once its strobe phase has begun, a line keeps its strobe time (R168). -/
@[simp] theorem strobeOf_begun {s : State} {l : Line} {t : Nat} (h : l.strobe = some t) : strobeOf s l = t := by simp [strobeOf, h]

/-- Before its strobe phase, the strobe time of a line is that of the present temperature and table (R168). -/
theorem strobeOf_waiting {s : State} {l : Line} (h : l.strobe = none) :
    strobeOf s l = strobeTime (baseTime s.mgmt.strobes s.printer.temp) l.volts := by
  rw [strobeOf, h, Option.getD_none]

/-- What requesting a shot can do (R166, R168): nothing, while a unit exceeds the allowance; or the shot leaves the dots not yet requested
and stands as the printer's request, and the strobe time of the line is fixed. -/
theorem requestShot_cases (l : Line) (s : State) :
    (nextShot? l.allowance l.iDot l.unfired = none ∧ requestShot l s = s)
    ∨ ∃ shot, nextShot? l.allowance l.iDot l.unfired = some shot
      ∧ requestShot l s = { s with
          printer := { s.printer with line := some {
            l with unfired := l.unfired &&& ~~~shot, shot := some shot, strobe := some (strobeOf s l) } }
          supply := { s.supply with prnRequest := some ⟨.strobe, dotsCurrent l.iDot shot, strobeOf s l⟩ } } := by
  cases h : nextShot? l.allowance l.iDot l.unfired with
  | none => exact .inl ⟨rfl, by simp [requestShot, h]⟩
  | some shot => exact .inr ⟨shot, rfl, by simp [requestShot, h, placeRequest, State.modSupply, State.modPrinter]⟩

/-- The first shot of a packing is the open shot grown (R166). -/
theorem shotsFrom_first (allowance iDot : Nat) (shot : Dots) (us : List Dots) :
    ∃ later, shotsFrom allowance iDot shot us = growShot allowance iDot shot us :: later := by
  induction us generalizing shot with
  | nil => exact ⟨[], rfl⟩
  | cons u rest ih =>
    simp only [shotsFrom, growShot]
    split
    · exact ih _
    · exact ⟨_, rfl⟩

/-- The next shot is the first shot of the packing (R166). -/
theorem nextShot?_eq (allowance iDot : Nat) (dots : Dots) :
    nextShot? allowance iDot dots = (shots allowance iDot dots).bind List.head? := by
  unfold nextShot? shots
  cases units allowance iDot dots with
  | nil => rfl
  | cons u rest =>
    obtain ⟨later, h⟩ := shotsFrom_first allowance iDot u rest
    dsimp only
    split <;> simp [h]

theorem repackLine_touches (s : State) : Touches [.printer, .supply] s (repackLine s) := by
  simp only [repackLine]
  have h := (reformAllowance_touches s).within (ls := [.printer, .supply]) rfl
  split
  · exact h
  · split
    · exact h
    · exact h.seq (requestShot_touches _ _)

theorem startPulse_touches (r : Request) (s : State) : Touches [.port, .drawer, .printer, .supply] s (startPulse r s) :=
  (((State.modSupply_touches _ _).next (State.modDrawer_touches _ _) rfl rfl).seq
    ((formDrawerState_touches _).within rfl)).seq ((repackLine_touches _).within rfl)

theorem grantSolenoid_touches (s : State) : Touches [.port, .drawer, .printer, .supply] s (grantSolenoid s) := by
  unfold grantSolenoid
  split
  · exact .refl _ _
  · split
    · exact startPulse_touches _ _
    · exact .refl _ _

theorem startPrinterGrant_touches (r : Request) (s : State) : Touches [.printer, .supply] s (startPrinterGrant r s) := by
  simp only [startPrinterGrant]
  split
  · exact (State.modSupply_touches _ _).next (State.modPrinter_touches _ _) rfl rfl
  · exact (State.modSupply_touches _ _).within rfl

theorem grantPrinter_touches (s : State) : Touches [.printer, .supply] s (grantPrinter s) := by
  unfold grantPrinter
  split
  · exact .refl _ _
  · split
    · exact startPrinterGrant_touches _ _
    · exact .refl _ _

theorem grantTest_touches (s : State) : Touches [.port, .drawer, .printer, .supply] s (grantTest s) := by
  unfold grantTest
  split
  · exact .refl _ _
  · exact (grantSolenoid_touches _).seq ((grantPrinter_touches _).within rfl)

theorem syncQuiet_touches (s : State) : Touches [.port, .drawer, .printer, .supply] s (syncQuiet s) := by
  unfold syncQuiet
  split
  · split
    · exact (State.modSupply_touches _ _).next (grantTest_touches _) rfl rfl
    · exact .refl _ _
  · split
    · exact (State.modSupply_touches _ _).within rfl
    · exact .refl _ _

theorem markPrinting_touches (i : Nat) (s : State) : Touches [.sales] s (markPrinting i s) := State.modSales_touches _ _

theorem advanceLine_touches (s : State) : Touches [.sales, .printer, .supply] s (advanceLine s) := by
  unfold advanceLine
  split
  · exact .refl _ _
  · split
    · exact .refl _ _
    · split
      · exact ((markPrinting_touches _ _).next (State.modPrinter_touches _ _) rfl rfl).seq
          ((placeRequest_touches _ _).within rfl)
      · exact (requestShot_touches _ _).within rfl

theorem allowanceChanged_touches (s : State) :
    Touches [.port, .sales, .drawer, .printer, .supply] s (allowanceChanged s) :=
  ((reformAllowance_touches _).next (advanceLine_touches _) rfl rfl).seq ((grantTest_touches _).within rfl)

theorem reformPrinterRequest_touches (s : State) : Touches [.supply] s (reformPrinterRequest s) := by
  unfold reformPrinterRequest
  split
  · exact placeRequest_touches _ _
  · exact placeRequest_touches _ _
  · exact .refl _ _

theorem reformSolenoid_touches (s : State) : Touches [.supply] s (reformSolenoid s) := State.modSupply_touches _ _

theorem setBudget_touches (n : Nat) (s : State) : Touches [.printer, .supply] s (setBudget n s) := by
  simp only [setBudget]
  split
  · exact (State.modSupply_touches _ _).within rfl
  · exact (((State.modSupply_touches _ _).next (reformSolenoid_touches _) rfl rfl).seq
      ((reformPrinterRequest_touches _).within rfl)).seq ((reformAllowance_touches _).within rfl)

theorem takePendingBudget_touches (s : State) : Touches [.printer, .supply] s (takePendingBudget s) := by
  unfold takePendingBudget
  split
  · split
    · exact setBudget_touches _ _
    · exact .refl _ _
  · exact .refl _ _

theorem startShock_touches (s : State) : Touches [.scale] s (startShock s) := State.modScale_touches _ _

theorem markDisturbed_touches (s : State) : Touches [.scale] s (markDisturbed s) := by
  unfold markDisturbed
  split
  · exact State.modScale_touches _ _
  · exact .refl _ _

end Sys2Proof.Machine
end

