-- ==== Sys2Proof/Laws/Lane.lean ====
section
/-! SUPPORT. The blocks that the drawer, the Print engine, the arbiter's rows and the swipe path may change. -/

namespace Sys2Proof.Machine

/-! ## The drawer -/

theorem restorePermit_touches (p : Option Permit) (s : State) : Touches [.sales] s (restorePermit p s) := by
  unfold restorePermit
  split
  · split
    · exact State.modSales_touches _ _
    · exact .refl _ _
  · exact .refl _ _

theorem reportDrawer_touches (k : DrawerKind) (a : Option Nat) (x y : Bool) (s : State) :
    Touches [.port, .drawer] s (reportDrawer k a x y s) := offerDrawer_touches _ _

theorem enterWaitGrant_touches (s : State) :
    Touches [.port, .sales, .drawer, .printer, .supply] s (enterWaitGrant s) :=
  (((State.modDrawer_touches _ _).next (State.modSupply_touches _ _) rfl rfl).seq
    ((formDrawerState_touches _).within rfl)).seq ((allowanceChanged_touches _).within rfl)

theorem enterOpen_touches (b : Bool) (s : State) :
    Touches [.port, .mgmt, .scan, .swipe, .drawer] s (enterOpen b s) :=
  (((((State.modDrawer_touches _ _).next (reportDrawer_touches _ _ _ _ _) rfl rfl).seq
    ((State.modDrawer_touches _ _).within rfl)).seq ((count_touches _ _).within rfl)).seq
    ((formDrawerState_touches _).within rfl)).seq ((raiseEvent_touches _ _).within rfl)

theorem endPulse_touches (s : State) :
    Touches [.port, .mgmt, .scale, .scan, .swipe, .sales, .drawer, .printer, .supply] s (endPulse s) := by
  have h : Touches [.port, .mgmt, .scale, .scan, .swipe, .sales, .drawer, .printer, .supply] s
      (startShock (markDisturbed (s.modSupply fun b => { b with solGrant := none }))) :=
    ((State.modSupply_touches _ _).next (markDisturbed_touches _) rfl rfl).seq ((startShock_touches _).within rfl)
  have g : ∀ u, Touches [.port, .mgmt, .scale, .scan, .swipe, .sales, .drawer, .printer, .supply] u
      (allowanceChanged (takePendingBudget u)) :=
    fun u => (takePendingBudget_touches _).next (allowanceChanged_touches _) rfl rfl
  unfold endPulse
  refine Touches.seq ?_ (g _)
  split
  · exact h.seq ((enterOpen_touches _ _).within rfl)
  · exact h.seq ((State.modDrawer_touches _ _).next (formDrawerState_touches _) rfl rfl)

theorem jam_touches (s : State) : Touches [.port, .mgmt, .scan, .swipe, .sales, .drawer] s (jam s) :=
  (((((reportDrawer_touches _ _ _ _ _).next (restorePermit_touches _ _) rfl rfl).seq
    ((State.modDrawer_touches _ _).within rfl)).seq ((count_touches _ _).within rfl)).seq
    ((formDrawerState_touches _).within rfl)).seq ((raiseEvent_touches _ _).within rfl)

theorem passDeadline_touches (s : State) :
    Touches [.port, .mgmt, .scan, .swipe, .sales, .drawer, .printer, .supply] s (passDeadline s) := by
  unfold passDeadline
  split
  · exact (State.modDrawer_touches _ _).next (enterWaitGrant_touches _) rfl rfl
  · exact (jam_touches _).within rfl

theorem checkOverdue_touches (s : State) : Touches [.port, .mgmt, .scan, .swipe, .drawer] s (checkOverdue s) := by
  unfold checkOverdue
  split
  · exact (((State.modDrawer_touches _ _).next (reportDrawer_touches _ _ _ _ _) rfl rfl).seq
      ((formDrawerState_touches _).within rfl)).seq ((raiseEvent_touches _ _).within rfl)
  · exact .refl _ _

theorem serveWithoutPulse_touches (s : State) :
    Touches [.port, .mgmt, .scan, .swipe, .sales, .drawer, .printer, .supply] s (serveWithoutPulse s) :=
  ((State.modSupply_touches _ _).next (enterOpen_touches _ _) rfl rfl).seq ((allowanceChanged_touches _).within rfl)

theorem forceOpen_touches (s : State) : Touches [.port, .drawer] s (forceOpen s) :=
  ((State.modDrawer_touches _ _).next (reportDrawer_touches _ _ _ _ _) rfl rfl).seq
    ((formDrawerState_touches _).within rfl)

theorem closeDrawer_touches (s : State) : Touches [.port, .mgmt, .scale, .scan, .swipe, .drawer] s (closeDrawer s) :=
  ((((reportDrawer_touches _ _ _ _ _).next (State.modDrawer_touches _ _) rfl rfl).seq
    ((formDrawerState_touches _).within rfl)).seq ((startShock_touches _).within rfl)).seq
    ((raiseEvent_touches _ _).within rfl)

theorem actOnSense_touches (l : SenseLevel) (s : State) :
    Touches [.port, .mgmt, .scale, .scan, .swipe, .sales, .drawer, .printer, .supply] s (actOnSense l s) := by
  unfold actOnSense
  split
  · exact (forceOpen_touches _).within rfl
  · exact (serveWithoutPulse_touches _).within rfl
  · exact (enterOpen_touches _ _).within rfl
  · exact (State.modDrawer_touches _ _).within rfl
  · exact (closeDrawer_touches _).within rfl
  · exact (closeDrawer_touches _).within rfl
  · exact (closeDrawer_touches _).within rfl
  · exact .refl _ _

theorem takeSense_touches (l : SenseLevel) (s : State) :
    Touches [.port, .mgmt, .scale, .scan, .swipe, .sales, .drawer, .printer, .supply] s (takeSense l s) := by
  unfold takeSense
  split
  · exact .refl _ _
  · exact (State.modDrawer_touches _ _).next (actOnSense_touches _ _) rfl rfl

theorem setInputs_touches (i : InputLevels) (s : State) : Touches [.inputs] s { s with inputs := i } := by
  constructor <;> simp

theorem changeSense_touches (l : SenseLevel) (s : State) :
    Touches [.inputs, .port, .mgmt, .scale, .scan, .swipe, .sales, .drawer, .printer, .supply] s (changeSense l s) := by
  unfold changeSense
  split
  · exact (setInputs_touches _ _).within rfl
  · split
    · exact (setInputs_touches _ _).next (State.modDrawer_touches _ _) rfl rfl
    · exact (setInputs_touches _ _).next (takeSense_touches _ _) rfl rfl

theorem takeDeferred_touches (s : State) :
    Touches [.inputs, .port, .mgmt, .scale, .scan, .swipe, .sales, .drawer, .printer, .supply] s (takeDeferred s) := by
  unfold takeDeferred
  split
  · exact ((State.modDrawer_touches _ _).next (takeSense_touches _ _) rfl rfl).seq (changeSense_touches _ _)
  · exact .refl _ _

/-! ## The Print engine -/

theorem setEngine_touches (e : PrintState) (c : Option StopCause) (r : Option PrintState) (s : State) :
    Touches [.port, .printer] s (setEngine e c r s) := by
  simp only [setEngine]
  split
  · exact (State.modPrinter_touches _ _).within rfl
  · exact (State.modPrinter_touches _ _).next (formPrinterState_touches _) rfl rfl

theorem goIdle_touches (s : State) : Touches [.port, .printer] s (goIdle s) := by
  unfold goIdle
  split
  · exact (setEngine_touches _ _ _ _).seq (setEngine_touches _ _ _ _)
  · exact setEngine_touches _ _ _ _

theorem startLine_touches (i : Nat) (c : Bool) (d : Dots) (s : State) :
    Touches [.port, .sales, .drawer, .printer, .supply] s (startLine i c d s) :=
  ((State.modPrinter_touches _ _).next (advanceLine_touches _) rfl rfl).seq ((grantTest_touches _).within rfl)

theorem tryLine_touches {d : Dots} {e : PrintState} {f : State → State} {s : State}
    (h : Touches [.port, .sales, .drawer, .printer, .supply] s (f s)) :
    Touches [.port, .sales, .drawer, .printer, .supply] s (tryLine d e f s) := by
  unfold tryLine
  split
  · exact .refl _ _
  · split
    · exact (setEngine_touches _ _ _ _).within rfl
    · split
      · exact (setEngine_touches _ _ _ _).within rfl
      · exact h

theorem requestCut_touches (s : State) : Touches [.port, .drawer, .printer, .supply] s (requestCut s) := by
  unfold requestCut
  split
  · exact (placeRequest_touches _ _).next (grantTest_touches _) rfl rfl
  · exact .refl _ _

theorem feedLine_touches (s : State) : Touches [.port, .sales, .drawer, .printer, .supply] s (feedLine s) := by
  unfold feedLine
  split
  · exact (setEngine_touches _ _ _ _).next (requestCut_touches _) rfl rfl
  · exact tryLine_touches (startLine_touches _ _ _ _)

theorem startCutFeed_touches (n : Nat) (s : State) :
    Touches [.port, .sales, .drawer, .printer, .supply] s (startCutFeed n s) :=
  ((State.modPrinter_touches _ _).next (setEngine_touches _ _ _ _) rfl rfl).seq (feedLine_touches _)

theorem saleLine_touches (i : Nat) (s : State) : Touches [.port, .sales, .drawer, .printer, .supply] s (saleLine i s) := by
  unfold saleLine
  refine Touches.seq ((setEngine_touches .printing none none s).within rfl) (tryLine_touches ?_)
  exact ((State.modPrinter_touches _ _).next (State.modSales_touches _ _) rfl rfl).seq (startLine_touches _ _ _ _)

theorem takeWork_touches (s : State) : Touches [.port, .sales, .drawer, .printer, .supply] s (takeWork s) := by
  unfold takeWork
  split
  · exact (goIdle_touches _).within rfl
  · rename_i slot x h
    generalize activate x (s.printer.lines slot) s.printer.overlays = a
    have m : Touches [.port, .sales, .drawer, .printer, .supply] s
        (s.modPrinter fun b => { b.setLines slot a.1 with overlays := a.2 }) :=
      (State.modPrinter_touches _ _).within rfl
    simp only []
    split
    · exact m.seq (saleLine_touches _ _)
    · split
      · exact m.seq ((goIdle_touches _).within rfl)
      · split
        · exact m.seq (saleLine_touches _ _)
        · exact m.seq (startCutFeed_touches _ _)

theorem goOn_touches (s : State) : Touches [.port, .sales, .drawer, .printer, .supply] s (goOn s) := by
  unfold goOn
  split
  · exact .refl _ _
  · split
    · exact takeWork_touches _
    · exact takeWork_touches _
    · exact feedLine_touches _
    · exact (requestCut_touches _).within rfl
    · exact .refl _ _
    · exact .refl _ _

theorem pokePrinter_touches (s : State) : Touches [.port, .sales, .drawer, .printer, .supply] s (pokePrinter s) := by
  unfold pokePrinter
  split
  · exact goOn_touches _
  · exact .refl _ _

theorem completeBands_touches (i : Nat) (s : State) : Touches [.port, .sales, .printer] s (completeBands i s) := by
  have go : ∀ (l : List Overlay) (g : Overlay → State → State) (_ : ∀ o t, Touches [.port, .sales, .printer] t (g o t)) (t : State),
      Touches [.port, .sales, .printer] t (l.foldl (fun t o => g o t) t) := by
    intro l g hg
    induction l with
    | nil => exact .refl _
    | cons o rest ih =>
      intro t
      rw [List.foldl_cons]
      exact (hg o t).seq (ih _)
  unfold completeBands
  refine Touches.seq ((State.modPrinter_touches _ _).within rfl) (go _ (fun o t => offerPrinter _ (t.modSales _)) ?_ _)
  intro o t
  exact (State.modSales_touches _ _).next (offerPrinter_touches _ _) rfl rfl

theorem completeLine_touches (l : Line) (s : State) :
    Touches [.port, .sales, .drawer, .printer, .supply] s (completeLine l s) := by
  have m : Touches [.port, .sales, .drawer, .printer, .supply] s
      ((s.modPrinter fun b => { b with line := none }).modSales fun b =>
        b.update l.slot fun x => { x with dotLines := x.dotLines + 1 }) :=
    (State.modPrinter_touches _ _).next (State.modSales_touches _ _) rfl rfl
  unfold completeLine
  simp only []
  split
  · exact (m.seq ((State.modPrinter_touches _ _).within rfl)).seq (feedLine_touches _)
  · exact (m.seq ((completeBands_touches _ _).within rfl)).seq (takeWork_touches _)

theorem releasePrinterGrant_touches (s : State) : Touches [.scale, .printer, .supply] s (releasePrinterGrant s) := by
  have m : Touches [.scale, .printer, .supply] s
      (takePendingBudget (markDisturbed (s.modSupply fun b => { b with prnGrant := none }))) :=
    ((State.modSupply_touches _ _).next (markDisturbed_touches _) rfl rfl).seq ((takePendingBudget_touches _).within rfl)
  unfold releasePrinterGrant
  simp only []
  split
  · exact m
  · exact m.seq ((State.modSupply_touches _ _).within rfl)

theorem closeCutSale_touches (n : Nat) (s : State) :
    Touches [.port, .mgmt, .scan, .swipe, .sales, .printer] s (closeCutSale n s) := by
  unfold closeCutSale
  split
  · exact .refl _ _
  · exact (((changeSale_touches _ _ _ _).next (raiseEvent_touches _ _) rfl rfl).seq
      ((count_touches _ _).within rfl)).seq ((offerPrinter_touches _ _).within rfl)

theorem completeCut_touches (s : State) :
    Touches [.port, .mgmt, .scale, .scan, .swipe, .sales, .drawer, .printer, .supply] s (completeCut s) := by
  have g : ∀ u, Touches [.port, .mgmt, .scale, .scan, .swipe, .sales, .drawer, .printer, .supply] u
      (grantTest (takeWork (u.modPrinter fun b => { b with cutSale := none, awaySeen := false }))) :=
    fun u => ((State.modPrinter_touches _ _).next (takeWork_touches _) rfl rfl).seq ((grantTest_touches _).within rfl)
  unfold completeCut
  refine Touches.seq ?_ (g _)
  split
  · exact (releasePrinterGrant_touches _).next (closeCutSale_touches _ _) rfl rfl
  · exact (releasePrinterGrant_touches _).within rfl

theorem changeCutter_touches (l : CutterLevel) (s : State) :
    Touches [.port, .mgmt, .scale, .scan, .swipe, .sales, .drawer, .printer, .supply] s (changeCutter l s) := by
  unfold changeCutter
  split
  · exact .refl _ _
  · have m : ∀ f, Touches [.port, .mgmt, .scale, .scan, .swipe, .sales, .drawer, .printer, .supply] s
        (formPrinterState (s.modPrinter f)) :=
      fun f => (State.modPrinter_touches _ _).next (formPrinterState_touches _) rfl rfl
    simp only []
    split
    · exact (m _).seq (completeCut_touches _)
    · exact m _

theorem endPrinterGrant_touches (g : Grant) (s : State) :
    Touches [.port, .scale, .sales, .drawer, .printer, .supply] s (endPrinterGrant g s) := by
  have m := (releasePrinterGrant_touches s).within (ls := [.port, .scale, .sales, .drawer, .printer, .supply]) rfl
  unfold endPrinterGrant
  refine Touches.seq ?_ ((grantTest_touches _).within rfl)
  split
  · exact m.seq ((((endShot_touches _).within (ls := [.sales, .printer, .supply]) rfl).seq (advanceLine_touches _)).within rfl)
  · split
    · exact m.seq ((completeLine_touches _ _).within rfl)
    · exact m
  · exact m.seq ((setEngine_touches _ _ _ _).within rfl)
  · exact m

theorem idleStop_touches (s : State) : Touches [.port, .printer] s (idleStop s) := by
  unfold idleStop
  split
  · split
    · exact setEngine_touches _ _ _ _
    · exact .refl _ _
  · exact .refl _ _

theorem changePrinterSwitch_touches (w : PrinterSwitch) (s : State) :
    Touches [.port, .mgmt, .scan, .swipe, .printer] s (changePrinterSwitch w s) := by
  have m : ∀ f, Touches [.port, .mgmt, .scan, .swipe, .printer] s (formPrinterState (s.modPrinter f)) :=
    fun f => (State.modPrinter_touches _ _).next (formPrinterState_touches _) rfl rfl
  unfold changePrinterSwitch
  split
  · split
    · exact .refl _ _
    · refine Touches.seq ?_ ((idleStop_touches _).within rfl)
      split
      · exact (m _).seq ((raiseEvent_touches _ _).within rfl)
      · exact m _
  · split
    · exact .refl _ _
    · simp only []
      split
      · exact (m _).seq ((raiseEvent_touches _ _).within rfl)
      · exact m _
  · split
    · exact .refl _ _
    · exact (m _).seq ((idleStop_touches _).within rfl)

theorem takeTemperature_touches (x : Int) (s : State) :
    Touches [.port, .sales, .drawer, .printer, .supply] s (takeTemperature x s) := by
  unfold takeTemperature
  simp only []
  split
  · exact ((State.modPrinter_touches _ _).next (setEngine_touches _ _ _ _) rfl rfl).seq (goOn_touches _)
  · exact (State.modPrinter_touches _ _).within rfl

theorem abortLines_touches (i : Nat) (s : State) : Touches [.sales, .printer] s (abortLines i s) := by
  simp only [abortLines]
  exact (State.modPrinter_touches _ _).next (State.modSales_touches _ _) rfl rfl

/-! ## The arbiter's rows -/

theorem endGrant_touches (s : State) :
    Touches [.port, .mgmt, .scale, .scan, .swipe, .sales, .drawer, .printer, .supply] s (endGrant s) := by
  unfold endGrant
  split
  · exact (endPrinterGrant_touches _ _).within rfl
  · split
    · exact endPulse_touches _
    · exact .refl _ _

theorem takeVolts_touches (n : Nat) (s : State) :
    Touches [.port, .mgmt, .scan, .swipe, .drawer, .printer, .supply] s (takeVolts n s) := by
  have m : ∀ f, Touches [.port, .mgmt, .scan, .swipe, .drawer, .printer, .supply] s (s.modSupply f) :=
    fun f => (State.modSupply_touches _ _).within rfl
  unfold takeVolts
  simp only []
  split
  · split
    · exact (((m _).seq ((State.modSupply_touches _ _).within rfl)).seq ((raiseEvent_touches _ _).within rfl)).seq
        ((grantTest_touches _).within rfl)
    · exact m _
  · split
    · exact ((m _).seq ((State.modSupply_touches _ _).within rfl)).seq ((raiseEvent_touches _ _).within rfl)
    · exact m _

/-! ## Swipes and cards -/

theorem takeEdge_touches (s : State) : Touches [.swipe] s (takeEdge s) := by
  unfold takeEdge
  split
  · exact .refl _ _
  · exact State.modSwipe_touches _ _
  · exact State.modSwipe_touches _ _
  · split <;> exact State.modSwipe_touches _ _

theorem armSwipe_touches (s : State) : Touches [.swipe] s (armSwipe s) := by
  unfold armSwipe
  split
  · exact State.modSwipe_touches _ _
  · exact .refl _ _

theorem attachTo_touches (i : Nat) (x : Sale) (r : CardReport) (s : State) : Touches [.sales] s (attachTo i x r s).2 := by
  have m : ∀ f, Touches [.sales] s (s.modSales f) := fun f => State.modSales_touches f s
  unfold attachTo
  cases r.cardClass
  case loyalty => dsimp only; exact m _
  case unknown => exact .refl _ _
  all_goals
    by_cases h : 4 ≤ x.refs.length
    · dsimp only; rw [if_pos h]; exact .refl _ _
    · dsimp only; rw [if_neg h]; dsimp only; exact m _

theorem attach_touches (r : CardReport) (s : State) : Touches [.sales] s (attach r s).2 := by
  unfold attach
  split
  · exact .refl _ _
  · split
    · exact attachTo_touches _ _ _ _
    · exact .refl _ _

theorem processCard_touches (c : CardRecord) (s : State) :
    Touches [.port, .mgmt, .scan, .swipe, .sales] s (processCard c s) :=
  (((State.modSwipe_touches _ _).next (attach_touches _ _) rfl rfl).seq ((raiseEvent_touches _ _).within rfl)).seq
    ((offerCard_touches _ _).within rfl)

theorem processWaitingCard_touches (s : State) :
    Touches [.port, .mgmt, .scan, .swipe, .sales] s (processWaitingCard s) := by
  unfold processWaitingCard
  split
  · exact processCard_touches _ _
  · exact .refl _ _

theorem formRecord_touches (c : CardRecord) (s : State) : Touches [.mgmt, .swipe] s (formRecord c s) :=
  (State.modSwipe_touches _ _).next (count_touches _ _) rfl rfl

theorem endSwipe_touches (s : State) : Touches [.port, .mgmt, .scan, .swipe, .sales] s (endSwipe s) := by
  unfold endSwipe
  simp only []
  split
  · exact (State.modSwipe_touches _ _).next (count_touches _ _) rfl rfl
  · exact ((State.modSwipe_touches _ _).next (formRecord_touches _ _) rfl rfl).seq (processWaitingCard_touches _)

end Sys2Proof.Machine
end

