-- ==== Sys2Proof/Laws/Weighing.lean ====
section
/-! SUPPORT. The blocks that the weigh requests, the measurement path and the calibration may change. -/

namespace Sys2Proof.Machine

/-! ## Weigh requests -/

theorem endRequest_touches (r : WeighRequest) (o : WeighOutcome) (s : State) :
    Touches [.port, .scale] s (endRequest r o s) := offerWeight_touches _ _

theorem seatHead_touches (l : List WeighRequest) (s : State) : Touches [.port, .scale] s (seatHead l s) := by
  induction l generalizing s with
  | nil => exact (State.modScale_touches _ _).within rfl
  | cons r rest ih =>
    unfold seatHead
    split
    · exact (endRequest_touches _ _ _).seq (ih _)
    · exact (State.modScale_touches _ _).within rfl

theorem nextHead_touches (l : List WeighRequest) (s : State) :
    Touches [.port, .scale, .drawer, .printer, .supply] s (nextHead l s) :=
  (seatHead_touches _ _).next (syncQuiet_touches _) rfl rfl

theorem createRequest_touches (i : Nat) (x : Sale) (o : Source) (c : Option (List Byte)) (n : Nat) (s : State) :
    Touches [.port, .scale, .sales, .drawer, .printer, .supply] s (createRequest i x o c n s) := by
  simp only [createRequest]
  split
  · exact (State.modSales_touches _ _).next (nextHead_touches _ _) rfl rfl
  · exact (State.modSales_touches _ _).next (State.modScale_touches _ _) rfl rfl

theorem endAll_touches (o : WeighOutcome) (l : List WeighRequest) (s : State) :
    Touches [.port, .scale] s (endAll o l s) := by
  induction l generalizing s with
  | nil => exact .refl _ _
  | cons r rest ih =>
    unfold endAll
    exact (endRequest_touches _ _ _).seq (ih _)

theorem endAllFault_touches (s : State) : Touches [.port, .scale, .drawer, .printer, .supply] s (endAllFault s) :=
  ((endAll_touches _ _ _).next (State.modScale_touches _ _) rfl rfl).seq ((syncQuiet_touches _).within rfl)

theorem endWhere_touches (p : WeighRequest → Bool) (o : WeighOutcome) (s : State) :
    Touches [.port, .scale, .drawer, .printer, .supply] s (endWhere p o s) := by
  simp only [endWhere]
  split
  · exact .refl _ _
  · split
    · exact (endAll_touches _ _ _).next (nextHead_touches _ _) rfl rfl
    · exact (endAll_touches _ _ _).next (State.modScale_touches _ _) rfl rfl

theorem passOverHead_touches (s : State) : Touches [.scale] s (passOverHead s) := State.modScale_touches _ _

/-- An expiry passes over the head that it has seated, and no other (R50). -/
@[simp] theorem passOverHead_scale (s : State) : (passOverHead s).scale =
    { s.scale with passedOver := s.scale.queue.head?.map WeighRequest.number } := rfl

theorem timeoutHead_touches (s : State) :
    Touches [.port, .mgmt, .scale, .scan, .swipe, .drawer, .printer, .supply] s (timeoutHead s) := by
  unfold timeoutHead
  split
  · exact .refl _ _
  · split
    · exact (((endRequest_touches _ _ _).next (raiseEvent_touches _ _) rfl rfl).seq ((nextHead_touches _ _).within rfl)).seq
        ((passOverHead_touches _).within rfl)
    · exact .refl _ _

/-! ## The measurement path -/

theorem raiseLoadEvent_touches (a b : LoadCond) (s : State) : Touches [.mgmt, .scan, .swipe] s (raiseLoadEvent a b s) := by
  unfold raiseLoadEvent
  split
  · exact .refl _ _
  · split
    · exact raiseEvent_touches _ _
    · split
      · exact raiseEvent_touches _ _
      · exact .refl _ _

theorem publishAs_touches (l : LoadCond) (g : Option Int) (s : State) :
    Touches [.port, .mgmt, .scale, .scan, .swipe] s (publishAs l g s) := by
  simp only [publishAs]
  split
  · exact (State.modScale_touches _ _).next (raiseLoadEvent_touches _ _ _) rfl rfl
  · exact ((State.modScale_touches _ _).next (formScaleState_touches _) rfl rfl).seq
      ((raiseLoadEvent_touches _ _ _).within rfl)

theorem publish_touches (s : State) : Touches [.port, .mgmt, .scale, .scan, .swipe] s (publish s) :=
  publishAs_touches _ _ _

theorem settleZero_touches (s : State) : Touches [.port, .mgmt, .scale, .scan, .swipe] s (settleZero s) :=
  ((State.modScale_touches _ _).next (publishAs_touches _ _ _) rfl rfl).seq ((formScaleState_touches _).within rfl)

/-- All that a publication does to the scale. -/
theorem publishAs_scale (l : LoadCond) (g : Option Int) (s : State) :
    (publishAs l g s).scale =
      { s.scale with load := l, shown := g, armed := s.scale.armed || l == .zero, zeroRun := zeroRunAfter s l } := by
  have h : ∀ a b t, (raiseLoadEvent a b t).scale = t.scale := fun a b t => (raiseLoadEvent_touches a b t).scale (by decide)
  simp only [publishAs, h]
  split
  · rfl
  · exact (formScaleState_touches _).scale (by decide)

/-- A settled zero leaves the load at ZERO with a G of 0, the armed flag set, and the tracking run begun now where it runs. -/
theorem settleZero_scale (s : State) :
    (settleZero s).scale =
      { s.scale with
        load := .zero, shown := some 0, armed := true
        zeroRun := if s.scale.engine = .measuring ∧ s.mgmt.params.zeroTrack = 1 then some s.clock.laneTime else none } := by
  rw [settleZero, (formScaleState_touches _).scale (by decide), publishAs_scale]
  simp [zeroRunAfter]

theorem changeZero_touches (z : Int) (s : State) : Touches [.port, .mgmt, .scale, .scan, .swipe] s (changeZero z s) := by
  unfold changeZero
  split
  · exact .refl _ _
  · exact ((State.modScale_touches _ _).next (publish_touches _) rfl rfl).seq ((formScaleState_touches _).within rfl)

theorem moveEngine_touches (e : Engine) (s : State) :
    Touches [.port, .mgmt, .scale, .scan, .swipe, .drawer, .printer, .supply] s (moveEngine e s) := by
  simp only [moveEngine]
  have h : Touches [.port, .mgmt, .scale, .scan, .swipe, .drawer, .printer, .supply] s
      (formScaleState (publish (s.modScale fun b => { b with engine := e, zeroRun := none }))) :=
    ((State.modScale_touches _ _).next (publish_touches _) rfl rfl).seq ((formScaleState_touches _).within rfl)
  split
  · exact h.seq ((endAllFault_touches _).within rfl)
  · exact h

theorem trackZero_touches (s : State) : Touches [.port, .mgmt, .scale, .scan, .swipe] s (trackZero s) := by
  unfold trackZero
  split
  · split
    · simp only []
      split
      · exact ((State.modScale_touches _ _).next (State.modScale_touches _ _) rfl rfl).seq
          ((changeZero_touches _ _).within rfl)
      · exact ((State.modScale_touches _ _).next (State.modScale_touches _ _) rfl rfl).seq
          ((formScaleState_touches _).within rfl)
    · exact .refl _ _
  · exact .refl _ _

theorem takeZero_touches (m : Int) (s : State) : Touches [.scale] s (takeZero m s) :=
  (State.modScale_touches _ _).seq (State.modScale_touches _ _)

theorem initialZero_touches (s : State) :
    Touches [.port, .mgmt, .scale, .scan, .swipe, .drawer, .printer, .supply] s (initialZero s) := by
  unfold initialZero
  split
  · split
    · split
      · exact ((takeZero_touches _ _).seq (State.modScale_touches _ _)).next (settleZero_touches _) rfl rfl
      · split
        · exact moveEngine_touches _ _
        · exact .refl _ _
    · exact .refl _ _
  · exact .refl _ _

theorem capture_touches (r : WeighRequest) (l : List WeighRequest) (f : Figures) (s : State) :
    Touches [.port, .mgmt, .scale, .scan, .swipe, .sales, .drawer, .printer, .supply] s (capture r l f s) := by
  simp only [capture]
  split
  · exact (offerWeight_touches _ _).next (nextHead_touches _ _) rfl rfl
  · exact ((((State.modSales_touches _ _).next (State.modScale_touches _ _) rfl rfl).seq
      ((offerWeight_touches _ _).within rfl)).seq ((raiseEvent_touches _ _).within rfl)).seq
      (((formScaleState_touches _).next (nextHead_touches _ _) rfl rfl))

theorem testCapture_touches (s : State) :
    Touches [.port, .mgmt, .scale, .scan, .swipe, .sales, .drawer, .printer, .supply] s (testCapture s) := by
  unfold testCapture
  split
  · split
    · exact .refl _ _
    · exact capture_touches _ _ _ _
  · exact .refl _ _

/-- The head that an expiry of this moment has seated is not tested (R50). -/
theorem testCapture_passedOver {s : State} {r : WeighRequest} {rest : List WeighRequest} (h : s.scale.queue = r :: rest)
    (p : s.scale.passedOver = some r.number) : testCapture s = s := by
  unfold testCapture
  split
  · rename_i a _ _ _ q _
    rw [h] at q
    cases q
    simp [p]
  · rfl

theorem evaluate_touches (s : State) :
    Touches [.port, .mgmt, .scale, .scan, .swipe, .sales, .drawer, .printer, .supply] s (evaluate s) :=
  (((publish_touches _).next (trackZero_touches _) rfl rfl).seq ((initialZero_touches _).within rfl)).seq
    (testCapture_touches _)

theorem passNewest_touches (s : State) :
    Touches [.port, .mgmt, .scale, .scan, .swipe, .sales, .drawer, .printer, .supply] s (passNewest s) := by
  unfold passNewest
  split
  · split
    · exact (State.modScale_touches _ _).next (evaluate_touches _) rfl rfl
    · exact evaluate_touches _
  · exact evaluate_touches _

theorem calChanged_touches (s : State) :
    Touches [.port, .mgmt, .scale, .scan, .swipe, .sales, .drawer, .printer, .supply] s (calChanged s) :=
  (State.modScale_touches _ _).next (passNewest_touches _) rfl rfl

theorem enterConverterFault_touches (s : State) :
    Touches [.port, .mgmt, .scale, .scan, .swipe, .drawer, .printer, .supply] s (enterConverterFault s) :=
  (State.modScale_touches _ _).next (moveEngine_touches _ _) rfl rfl

theorem leaveConverterFault_touches (s : State) :
    Touches [.port, .mgmt, .scale, .scan, .swipe, .drawer, .printer, .supply] s (leaveConverterFault s) :=
  (State.modScale_touches _ _).next (moveEngine_touches _ _) rfl rfl

theorem endWarming_touches (s : State) :
    Touches [.port, .mgmt, .scale, .scan, .swipe, .drawer, .printer, .supply] s (endWarming s) :=
  (State.modScale_touches _ _).next (moveEngine_touches _ _) rfl rfl

theorem takeFiltered_touches (s : State) :
    Touches [.port, .mgmt, .scale, .scan, .swipe, .sales, .drawer, .printer, .supply] s (takeFiltered s) := by
  have key : ∀ u, Touches [.scale] s u → Touches [.port, .mgmt, .scale, .scan, .swipe, .sales, .drawer, .printer, .supply] s
      (passNewest (if u.scale.engine = .warming then endWarming u else u)) := by
    intro u h
    refine Touches.seq ?_ (passNewest_touches _)
    split
    · exact h.next (endWarming_touches _) rfl rfl
    · exact h.within rfl
  exact key _ (State.modScale_touches _ _)

theorem starve_touches (s : State) :
    Touches [.port, .mgmt, .scale, .scan, .swipe, .sales, .drawer, .printer, .supply] s (starve s) :=
  (State.modScale_touches _ _).next (evaluate_touches _) rfl rfl

theorem handleSample_touches (raw : BitVec 24) (s : State) :
    Touches [.port, .mgmt, .scale, .scan, .swipe, .sales, .drawer, .printer, .supply] s (handleSample raw s) := by
  unfold handleSample
  split
  · simp only [railSample]
    split
    · exact (State.modScale_touches _ _).next (enterConverterFault_touches _) rfl rfl
    · exact (State.modScale_touches _ _).within rfl
  · split
    · simp only [recoverySample]
      split
      · exact (State.modScale_touches _ _).next (leaveConverterFault_touches _) rfl rfl
      · exact (State.modScale_touches _ _).within rfl
    · split
      · simp only [noisySample]
        split
        · exact (State.modScale_touches _ _).next (starve_touches _) rfl rfl
        · exact (State.modScale_touches _ _).within rfl
      · simp only [acceptedSample]
        split
        · exact (State.modScale_touches _ _).next (takeFiltered_touches _) rfl rfl
        · exact (State.modScale_touches _ _).within rfl

theorem testLive_touches (s : State) : Touches [.port, .scale] s (testLive s) := by
  unfold testLive
  split
  · exact (formLive_touches _).next (State.modScale_touches _ _) rfl rfl
  · exact .refl _ _

theorem takeSample_touches (raw : BitVec 24) (s : State) :
    Touches [.clock, .port, .mgmt, .scale, .scan, .swipe, .sales, .drawer, .printer, .supply] s (takeSample raw s) :=
  ((((handleSample_touches _ _).next (State.modClock_touches _ _) rfl rfl).seq
    ((State.modScale_touches _ _).within rfl)).seq ((testLive_touches _).within rfl)).seq
    ((grantTest_touches _).within rfl)

theorem endShock_touches (s : State) : Touches [.scale] s (endShock s) := by
  unfold endShock
  split
  · exact (markDisturbed_touches _).seq (State.modScale_touches _ _)
  · exact .refl _ _

/-! ## Calibration -/

theorem moveOrResume_touches (e : Engine) (s : State) :
    Touches [.port, .mgmt, .scale, .scan, .swipe, .drawer, .printer, .supply] s (moveOrResume e s) := by
  unfold moveOrResume
  split
  · exact (State.modScale_touches _ _).within rfl
  · exact moveEngine_touches _ _

theorem discard_touches (s : State) :
    Touches [.port, .mgmt, .scale, .scan, .swipe, .sales, .drawer, .printer, .supply] s (discard s) :=
  ((((State.modScale_touches _ _).next (calChanged_touches _) rfl rfl).seq ((moveOrResume_touches _ _).within rfl)).seq
    ((State.modScale_touches _ _).within rfl)).seq ((formScaleState_touches _).within rfl)

theorem installCopy_touches (c : CalRecord) (e : Engine) (resume : Option Engine) (s : State) :
    Touches [.port, .mgmt, .scale, .scan, .swipe, .sales, .drawer, .printer, .supply] s (installCopy c e resume s) :=
  (State.modScale_touches _ _).next (calChanged_touches _) rfl rfl

theorem applyEdit_touches (c : CalRecord) (s : State) :
    Touches [.port, .mgmt, .scale, .scan, .swipe, .sales, .drawer, .printer, .supply] s (applyEdit c s) := by
  unfold applyEdit
  split
  · exact installCopy_touches _ _ _ _
  split
  · exact installCopy_touches _ _ _ _
  · exact (installCopy_touches _ _ _ _).seq ((formScaleState_touches _).within rfl)

theorem changeSeal_touches (l : SealLevel) (s : State) :
    Touches [.port, .mgmt, .scale, .store, .scan, .swipe, .sales, .drawer, .printer, .supply] s (changeSeal l s) := by
  simp only [changeSeal]
  split
  · exact .refl _ _
  · have h : Touches [.port, .mgmt, .scale, .store, .scan, .swipe, .sales, .drawer, .printer, .supply] s
        ((s.modStore fun b => { b with sealSwitch := l }).modScale fun b => { b with calWindow := [] }) :=
      (State.modStore_touches _ _).next (State.modScale_touches _ _) rfl rfl
    split
    · exact h.seq ((discard_touches _).within rfl)
    · exact h

theorem storeImage_touches (c : CalRecord) (s : State) : Touches [.mgmt, .scale, .store] s (storeImage c s) :=
  ((State.modStore_touches _ _).next (State.modMgmt_touches _ _) rfl rfl).seq ((State.modScale_touches _ _).within rfl)

theorem endTared_touches (s : State) : Touches [.port, .scale, .drawer, .printer, .supply] s (endTared s) :=
  endWhere_touches _ _ _

theorem completeCommit_touches (c : CalRecord) (s : State) :
    Touches [.port, .mgmt, .scale, .store, .scan, .swipe, .sales, .drawer, .printer, .supply] s (completeCommit c s) :=
  (((((((storeImage_touches _ _).next (State.modScale_touches _ _) rfl rfl).seq ((calChanged_touches _).within rfl)).seq
    ((changeZero_touches _ _).within rfl)).seq ((State.modScale_touches _ _).within rfl)).seq
    ((moveOrResume_touches _ _).within rfl)).seq ((endTared_touches _).within rfl)).seq
    ((formScaleState_touches _).within rfl)

theorem endErase_touches (s : State) : Touches [.store] s (endErase s) := by
  unfold endErase
  split
  · split
    · exact State.modStore_touches _ _
    · exact .refl _ _
  · exact .refl _ _

theorem endWrite_touches (s : State) :
    Touches [.port, .mgmt, .scale, .store, .scan, .swipe, .sales, .drawer, .printer, .supply] s (endWrite s) := by
  unfold endWrite
  split
  · split
    · split
      · exact ((storeImage_touches _ _).next (endTared_touches _) rfl rfl).seq ((formScaleState_touches _).within rfl)
      · exact completeCommit_touches _ _
    · exact .refl _ _
  · exact .refl _ _

end Sys2Proof.Machine
end

