-- ==== Sys2Proof/Laws/Commands.lean ====
section
/-! SUPPORT. The blocks that the commands of the host, the scanner path and the resets may change. -/

namespace Sys2Proof.Machine

/-- Every block but the clocks and the levels of the inputs. -/
abbrev lane : List Block := [.port, .mgmt, .scale, .store, .scan, .swipe, .sales, .drawer, .printer, .supply]

/-! ## The scanner path -/

theorem seekRequest_touches (e : ItemEntry) (r : ScanReport) (s : State) :
    Touches [.port, .scale, .sales, .drawer, .printer, .supply] s (seekRequest e r s).2 := by
  unfold seekRequest
  dsimp only
  split
  · exact .refl _ _
  · split
    · exact .refl _ _
    · split
      · exact .refl _ _
      · split
        · exact .refl _ _
        · exact createRequest_touches _ _ _ _ _ _

theorem applyItem_touches (e : ItemEntry) (r : ScanReport) (s : State) :
    Touches [.port, .mgmt, .scale, .scan, .swipe, .sales, .drawer, .printer, .supply] s (applyItem e r s).2 := by
  unfold applyItem
  dsimp only
  split
  · exact (seekRequest_touches _ _ _).within rfl
  · exact .refl _ _
  · exact (raiseEvent_touches _ _).within rfl
  · exact .refl _ _
  · exact .refl _ _

theorem classify_touches (c : List Byte) (s : State) :
    Touches [.port, .mgmt, .scale, .scan, .swipe, .sales, .drawer, .printer, .supply] s (classify c s).2 := by
  unfold classify
  dsimp only
  split
  · exact .refl _ _
  · split
    · exact (count_touches _ _).next (raiseEvent_touches _ _) rfl rfl
    · split
      · exact .refl _ _
      · split
        · exact .refl _ _
        · exact applyItem_touches _ _ _

theorem processScan_touches (c : List Byte) (s : State) :
    Touches [.port, .mgmt, .scale, .scan, .swipe, .sales, .drawer, .printer, .supply] s (processScan c s) := by
  unfold processScan
  exact ((count_touches _ _).next (classify_touches _ _) rfl rfl).seq ((offerScan_touches _ _).within rfl)

theorem processWaitingScan_touches (s : State) :
    Touches [.port, .mgmt, .scale, .scan, .swipe, .sales, .drawer, .printer, .supply] s (processWaitingScan s) := by
  unfold processWaitingScan
  split
  · exact (State.modScan_touches _ _).next (processScan_touches _ _) rfl rfl
  · exact .refl _ _

theorem takeCharacter_touches (d : Byte) (b : Bool) (s : State) :
    Touches [.port, .mgmt, .scale, .scan, .swipe, .sales, .drawer, .printer, .supply] s (takeCharacter d b s) := by
  unfold takeCharacter
  split
  · unfold endCode
    dsimp only
    split
    · exact .refl _ _
    · split
      · exact (State.modScan_touches _ _).next (count_touches _ _) rfl rfl
      · split
        · exact (State.modScan_touches _ _).next (processScan_touches _ _) rfl rfl
        · exact (State.modScan_touches _ _).next (State.modScan_touches _ _) rfl rfl
  · exact (State.modScan_touches _ _).within rfl

theorem dropCodeFrame_touches (s : State) : Touches [.mgmt, .scan] s (dropCodeFrame s) := by
  unfold dropCodeFrame
  split
  · exact .refl _ _
  · exact (State.modScan_touches _ _).next (count_touches _ _) rfl rfl

/-! ## Commands that answer a refusal or a result -/

/-- A command whose every outcome stays within a list of blocks. -/
def Command.Within (ks : List Block) (cmd : Command) : Prop := ∀ s, Touches ks s (cmd s).2

theorem refuse_within (st : Status) : Command.Within lane (refuse st) := fun _ => .refl _ _

/-! ### Sales -/

theorem onSale_within {n : BitVec 16} {f : Nat → Sale → Command} (h : ∀ i x, (f i x).Within lane) : (onSale n f).Within lane := by
  intro s
  unfold onSale
  split
  · exact .refl _ _
  · exact h _ _ s

theorem putSale_touches (i : Nat) (x : Sale) (s : State) : Touches [.sales] s (putSale i x s) := State.modSales_touches _ _

theorem openSlot_touches (i n : Nat) (s : State) : Touches [.port, .sales] s (openSlot i n s) :=
  (State.modSales_touches _ _).next (offerSale_touches _ _) rfl rfl

theorem abort_touches (i : Nat) (x : Sale) (s : State) :
    Touches [.port, .scale, .sales, .drawer, .printer, .supply] s (abort i x s) := by
  unfold abort
  exact (((((endWhere_touches _ _ _).next (abortLines_touches _ _) rfl rfl).seq ((State.modSales_touches _ _).within rfl)).seq
    ((changeSale_touches _ _ _ _).within rfl))).seq ((goOn_touches _).within rfl)

theorem release_touches (i : Nat) (x : Sale) (s : State) : Touches [.port, .sales] s (release i x s) :=
  (State.modSales_touches _ _).next (offerSale_touches _ _) rfl rfl

theorem cmdOpenSale_within : cmdOpenSale.Within lane := by
  intro s
  unfold cmdOpenSale
  split
  · exact .refl _ _
  · split
    · exact .refl _ _
    · split
      · exact .refl _ _
      · exact (openSlot_touches _ _ _).within rfl

theorem cmdSetDue_within (n : BitVec 16) (a : BitVec 32) : (cmdSetDue n a).Within lane := by
  refine onSale_within fun i x s => ?_
  split
  · exact .refl _ _
  · split
    · exact .refl _ _
    · exact (putSale_touches _ _ _).within rfl

theorem cmdBeginTender_within (n : BitVec 16) : (cmdBeginTender n).Within lane := by
  refine onSale_within fun i x s => ?_
  split
  · exact .refl _ _
  · split
    · exact .refl _ _
    · split
      · exact .refl _ _
      · exact (changeSale_touches _ _ _ _).within rfl

theorem cmdResumeSale_within (n : BitVec 16) : (cmdResumeSale n).Within lane := by
  refine onSale_within fun i x s => ?_
  split
  · exact .refl _ _
  · split
    · exact .refl _ _
    · exact (changeSale_touches _ _ _ _).within rfl

theorem cmdAddTender_within (n : BitVec 16) (k : Byte) (a c : BitVec 32) (r : Byte) : (cmdAddTender n k a c r).Within lane := by
  refine onSale_within fun i x s => ?_
  split
  · exact .refl _ _
  · split
    · exact .refl _ _
    · split
      · exact .refl _ _
      · split
        · exact .refl _ _
        · split
          · exact .refl _ _
          · exact (putSale_touches _ _ _).within rfl

theorem cmdWithdrawTender_within (n : BitVec 16) : (cmdWithdrawTender n).Within lane := by
  refine onSale_within fun i x s => ?_
  split
  · exact .refl _ _
  · split
    · exact .refl _ _
    · split
      · exact .refl _ _
      · exact (putSale_touches _ _ _).within rfl

theorem cmdSettle_within (n : BitVec 16) : (cmdSettle n).Within lane := by
  refine onSale_within fun i x s => ?_
  split
  · exact .refl _ _
  · split
    · exact .refl _ _
    · split
      · exact .refl _ _
      · exact (changeSale_touches _ _ _ _).next (raiseEvent_touches _ _) rfl rfl

theorem cmdVoidToken_within (n t : BitVec 16) : (cmdVoidToken n t).Within lane := by
  refine onSale_within fun i x s => ?_
  split
  · exact .refl _ _
  · split
    · exact .refl _ _
    · split
      · exact .refl _ _
      · split
        · exact .refl _ _
        · exact (putSale_touches _ _ _).within rfl

theorem cmdAbortSale_within (n : BitVec 16) : (cmdAbortSale n).Within lane := by
  refine onSale_within fun i x s => ?_
  split
  · exact .refl _ _
  · split
    · exact .refl _ _
    · exact (abort_touches _ _ _).within rfl

theorem cmdReleaseSale_within (n : BitVec 16) : (cmdReleaseSale n).Within lane := by
  refine onSale_within fun i x s => ?_
  split
  · exact .refl _ _
  · split
    · exact .refl _ _
    · split
      · exact .refl _ _
      · exact (release_touches _ _ _).within rfl

theorem cmdGetSale_within (a b : Byte) (o : Option Byte) : (cmdGetSale a b o).Within lane := by
  intro s
  unfold cmdGetSale
  split <;> exact .refl _ _

/-! ### Drawer and printer -/

theorem cmdOpenDrawerNoSale_within : cmdOpenDrawerNoSale.Within lane := by
  intro s
  unfold cmdOpenDrawerNoSale
  split
  · exact .refl _ _
  · split
    · exact .refl _ _
    · split
      · exact .refl _ _
      · exact ((count_touches _ _).next (State.modDrawer_touches _ _) rfl rfl).seq ((enterWaitGrant_touches _).within rfl)

theorem cmdOpenDrawer_within (n : BitVec 16) : (cmdOpenDrawer n).Within lane := by
  unfold cmdOpenDrawer
  split
  · exact cmdOpenDrawerNoSale_within
  · intro s
    unfold openForSale
    split
    · exact .refl _ _
    · split
      · exact .refl _ _
      · exact ((State.modSales_touches _ _).next (State.modDrawer_touches _ _) rfl rfl).seq
          ((enterWaitGrant_touches _).within rfl)

theorem cmdAppendLines_within (n : BitVec 16) (l : List Byte) : (cmdAppendLines n l).Within lane := by
  intro s
  unfold cmdAppendLines
  split
  · exact .refl _ _
  · split
    · exact .refl _ _
    · split
      · exact .refl _ _
      · split
        · exact .refl _ _
        · dsimp only
          split
          · exact .refl _ _
          · exact ((State.modPrinter_touches _ _).next (State.modSales_touches _ _) rfl rfl).seq
              ((pokePrinter_touches _).within rfl)

theorem cmdCloseReceipt_within (n : BitVec 16) : (cmdCloseReceipt n).Within lane := by
  intro s
  unfold cmdCloseReceipt
  split
  · exact .refl _ _
  · split
    · exact .refl _ _
    · split
      · exact .refl _ _
      · split
        · exact .refl _ _
        · exact (changeSale_touches _ _ _ _).next (pokePrinter_touches _) rfl rfl

theorem cmdResumePrinting_within : cmdResumePrinting.Within lane := by
  intro s
  unfold cmdResumePrinting
  split
  · exact .refl _ _
  · split
    · exact (setEngine_touches _ _ _ _).next (requestCut_touches _) rfl rfl
    · exact (setEngine_touches _ _ _ _).next (goOn_touches _) rfl rfl

/-! ### Weighing and calibration -/

theorem cmdSetZero_within : cmdSetZero.Within lane := by
  intro s
  unfold cmdSetZero
  split
  · exact .refl _ _
  · split
    · exact .refl _ _
    · split
      · split
        · exact (takeZero_touches _ _).next (settleZero_touches _) rfl rfl
        · exact .refl _ _
      · exact .refl _ _

theorem cmdRequestWeight_within (t : Byte) (n : BitVec 16) : (cmdRequestWeight t n).Within lane := by
  intro s
  unfold cmdRequestWeight
  split
  · exact .refl _ _
  · split
    · exact .refl _ _
    · split
      · exact .refl _ _
      · split
        · exact .refl _ _
        · exact (createRequest_touches _ _ _ _ _ _).within rfl

theorem cmdCancelWeighRequest_within (n : BitVec 16) : (cmdCancelWeighRequest n).Within lane := by
  intro s
  unfold cmdCancelWeighRequest
  dsimp only
  split
  · exact (endWhere_touches _ _ _).within rfl
  · split <;> exact .refl _ _

theorem edit_within (own : State → Except Status CalRecord) : (edit own).Within lane := by
  intro s
  unfold edit
  split
  · exact .refl _ _
  · split
    · exact .refl _ _
    · dsimp only [accept]; exact (applyEdit_touches _ _).within rfl

theorem cmdCommitCalibration_within : cmdCommitCalibration.Within lane := by
  intro s
  simp only [cmdCommitCalibration, accept]
  split
  · exact .refl _ _
  · split
    · exact .refl _ _
    · dsimp only; exact Touches.within (ks := [.store]) (State.modStore_touches _ _) rfl

theorem cmdDiscardCalibration_within : cmdDiscardCalibration.Within lane := by
  intro s
  unfold cmdDiscardCalibration
  split
  · exact .refl _ _
  · dsimp only [accept]; exact (discard_touches _).within rfl

/-! ### Management -/

theorem parameterEffect_touches (n v : Nat) (s : State) :
    Touches [.port, .mgmt, .scale, .scan, .swipe, .sales, .drawer, .printer, .supply] s (parameterEffect n v s) := by
  unfold parameterEffect
  split
  · exact (timeoutHead_touches _).within rfl
  · split
    · exact (State.modScale_touches _ _).within rfl
    · exact .refl _ _
  · split
    · exact (State.modScale_touches _ _).within rfl
    · exact .refl _ _
  · exact (reformSolenoid_touches _).within rfl
  · exact (checkOverdue_touches _).within rfl
  · split
    · exact ((setBudget_touches _ _).next (advanceLine_touches _) rfl rfl).seq ((grantTest_touches _).within rfl)
    · exact (State.modSupply_touches _ _).within rfl
  · exact (dropCodeFrame_touches _).within rfl
  · exact .refl _ _

theorem storeParameter_touches (n v : Nat) (s : State) :
    Touches [.port, .mgmt, .scale, .scan, .swipe, .sales, .drawer, .printer, .supply] s (storeParameter n v s) := by
  unfold storeParameter
  split
  · exact .refl _ _
  · exact (State.modMgmt_touches _ _).next (parameterEffect_touches _ _ _) rfl rfl

theorem cmdSetParameter_within (n : Byte) (v : BitVec 32) : (cmdSetParameter n v).Within lane := by
  intro s
  unfold cmdSetParameter
  split
  · exact .refl _ _
  · exact (storeParameter_touches _ _ _).within rfl

theorem cmdGetParameter_within (n : Byte) : (cmdGetParameter n).Within lane := by
  intro s
  unfold cmdGetParameter
  split <;> exact .refl _ _

theorem clearTable_touches (n : Nat) (s : State) : Touches [.mgmt, .scan, .swipe] s (clearTable n s) := by
  have m : ∀ f, Touches [.mgmt, .scan, .swipe] s (s.modMgmt f) := fun f => (State.modMgmt_touches _ _).within rfl
  unfold clearTable
  split
  all_goals first
    | exact m _
    | exact .refl _ _
    | exact ((m _).seq (perform_touches _ _)).seq (perform_touches _ _)

theorem cmdClearTable_within (n : Byte) : (cmdClearTable n).Within lane := by
  intro s
  simp only [cmdClearTable, accept]
  split
  · exact .refl _ _
  · split
    · exact .refl _ _
    · exact (clearTable_touches _ _).within rfl

theorem loadReply_within {E : Type} (r : Except (Status × Option Nat) (Table E)) (put : Table E → State → State)
    (h : ∀ t s, Touches [.mgmt] s (put t s)) : (loadReply r put).Within lane := by
  intro s
  unfold loadReply
  split
  · exact .refl _ _
  · exact .refl _ _
  · exact (h _ _).within rfl

theorem cmdLoadEntries_within (a b c : Byte) (l : List Byte) : (cmdLoadEntries a b c l).Within lane := by
  intro s
  unfold cmdLoadEntries
  dsimp only
  split
  all_goals first
    | exact loadReply_within _ _ (fun _ _ => State.modMgmt_touches _ _) s
    | exact .refl _ _

theorem setReady_touches (n : Nat) (s : State) : Touches [.mgmt] s (setReady n s) := State.modMgmt_touches _ _

theorem cmdCloseTable_within (a b : Byte) : (cmdCloseTable a b).Within lane := by
  intro s
  simp only [cmdCloseTable, accept]
  split
  · exact .refl _ _
  · split
    · exact .refl _ _
    · split
      · exact .refl _ _
      · split
        · exact .refl _ _
        · exact Touches.within (ls := lane) (setReady_touches _ _) rfl

theorem cmdReadEntry_within (a b : Byte) : (cmdReadEntry a b).Within lane := by
  intro s
  unfold cmdReadEntry
  dsimp only
  split <;> exact .refl _ _

theorem cmdReadCounters_within (a : Byte) : (cmdReadCounters a).Within lane := by
  intro s
  unfold cmdReadCounters
  split <;> exact .refl _ _

theorem cmdClearCounters_within (a : Byte) : (cmdClearCounters a).Within lane := by
  intro s
  simp only [cmdClearCounters, accept]
  split
  · dsimp only; exact Touches.within (ks := [.port]) (countLink_touches _ _) rfl
  · dsimp only; exact Touches.within (ks := [.mgmt]) (count_touches _ _) rfl
  · dsimp only; exact Touches.next (ks := [.mgmt]) (ls := [.port]) (count_touches _ _) (countLink_touches _ _) rfl rfl
  · exact .refl _ _

theorem cmdSetIndicator_within (a b : Byte) : (cmdSetIndicator a b).Within lane := by
  intro s
  simp only [cmdSetIndicator, accept]
  split
  · dsimp only; exact Touches.within (ks := [.mgmt, .scan, .swipe]) (perform_touches _ _) rfl
  · dsimp only; exact Touches.within (ks := [.mgmt, .scan, .swipe]) (perform_touches _ _) rfl
  · split
    · exact Touches.within (ls := lane) (beep_touches _ _) rfl
    · exact .refl _ _
  · exact .refl _ _

theorem cmdSetLinkRate_within (a : Byte) : (cmdSetLinkRate a).Within lane := by
  intro s
  unfold cmdSetLinkRate
  split
  · exact .refl _ _
  · dsimp only; exact Touches.within (ks := [.port]) (State.modPort_touches _ _) rfl

theorem cmdReset_within (a : Byte) : (cmdReset a).Within lane := by
  intro s
  unfold cmdReset
  split
  · dsimp only; exact Touches.within (ks := [.port]) (State.modPort_touches _ _) rfl
  · dsimp only; exact Touches.within (ks := [.port]) (State.modPort_touches _ _) rfl
  · exact .refl _ _

/-- Every command stays within the blocks of the lane. -/
theorem commandOf_within {i : Instr} {cmd : Command} (h : commandOf i = some cmd) : cmd.Within lane := by
  cases i <;> simp only [commandOf, Option.some.injEq, reduceCtorEq] at h <;> subst h
  case identify => exact fun _ => .refl _ _
  case getStatus => exact fun _ => .refl _ _
  case setParameter => exact cmdSetParameter_within _ _
  case getParameter => exact cmdGetParameter_within _
  case clearTable => exact cmdClearTable_within _
  case loadEntries => exact cmdLoadEntries_within _ _ _ _
  case closeTable => exact cmdCloseTable_within _ _
  case readEntry => exact cmdReadEntry_within _ _
  case readCounters => exact cmdReadCounters_within _
  case clearCounters => exact cmdClearCounters_within _
  case setIndicator => exact cmdSetIndicator_within _ _
  case reset => exact cmdReset_within _
  case setLinkRate => exact cmdSetLinkRate_within _
  case holdScanner => exact fun s => (State.modScan_touches (fun b => { b with holdHost := true }) s).within rfl
  case releaseScanner => exact fun s => (State.modScan_touches (fun b => { b with holdHost := false }) s).within rfl
  case holdSwipe => exact fun _ => Touches.within (ls := lane) (setSwipeHolds_touches _ _ _) rfl
  case releaseSwipe => exact fun _ => Touches.within (ls := lane) (setSwipeHolds_touches _ _ _) rfl
  case setZero => exact cmdSetZero_within
  case requestWeight => exact cmdRequestWeight_within _ _
  case cancelWeighRequest => exact cmdCancelWeighRequest_within _
  case setCapacity => exact edit_within _
  case captureCalZero => exact edit_within _
  case captureCalPoint => exact edit_within _
  case setCalPoint => exact edit_within _
  case commitCalibration => exact cmdCommitCalibration_within
  case discardCalibration => exact cmdDiscardCalibration_within
  case openSale => exact cmdOpenSale_within
  case setDue => exact cmdSetDue_within _ _
  case beginTender => exact cmdBeginTender_within _
  case resumeSale => exact cmdResumeSale_within _
  case addTender => exact cmdAddTender_within _ _ _ _ _
  case withdrawTender => exact cmdWithdrawTender_within _
  case settle => exact cmdSettle_within _
  case voidToken => exact cmdVoidToken_within _ _
  case abortSale => exact cmdAbortSale_within _
  case releaseSale => exact cmdReleaseSale_within _
  case getSale => exact cmdGetSale_within _ _ _
  case openDrawer => exact cmdOpenDrawer_within _
  case openDrawerNoSale => exact cmdOpenDrawerNoSale_within
  case appendLines => exact cmdAppendLines_within _ _
  case closeReceipt => exact cmdCloseReceipt_within _
  case resumePrinting => exact cmdResumePrinting_within

/-- What dispatch performs for a frame stays within the blocks of the lane. -/
theorem frameCommand_within (f : Frame) : (frameCommand f).Within lane := by
  unfold frameCommand
  split
  · exact refuse_within _
  · exact refuse_within _
  · cases h : commandOf _ with
    | none => exact refuse_within _
    | some cmd => exact commandOf_within h

/-! ## The frame of a command -/

theorem respond_touches (f : Frame) (r : Reply) (s : State) : Touches [.port] s (respond f r s) := State.modPort_touches _ _

theorem dispatch_touches {cmd : Command} (h : cmd.Within lane) (f : Frame) (s : State) : Touches lane s (dispatch f cmd s) := by
  unfold dispatch
  split
  · exact (countLink_touches _ _).within rfl
  · exact (h s).seq ((respond_touches _ _ _).within rfl)

theorem acceptFrame_touches {cmd : Command} (h : cmd.Within lane) (f : Frame) (s : State) :
    Touches lane s (acceptFrame f cmd s) := by
  unfold acceptFrame
  dsimp only
  split
  · exact (countLink_touches _ _).next (State.modPort_touches _ _) rfl rfl
  · exact ((countLink_touches _ _).within rfl).seq (dispatch_touches h _ _)

theorem beginFrame_touches (n : BitVec 3) (s : State) : Touches [.port] s (beginFrame n s) := by
  unfold beginFrame
  dsimp only
  have m : Touches [.port] s
      (if s.port.assembly.isSome then countLink (fun k => { k with truncated := satInc k.truncated }) s else s) := by
    split
    · exact countLink_touches _ _
    · exact .refl _ _
  split
  · exact (m.seq (countLink_touches _ _)).seq (State.modPort_touches _ _)
  · exact m.seq (State.modPort_touches _ _)

theorem receiveFrame_touches {cmd : Command} (h : cmd.Within lane) (f : Frame) (s : State) :
    Touches lane s (receiveFrame f cmd s) := by
  unfold receiveFrame
  dsimp only
  split
  · exact ((beginFrame_touches _ _).next (State.modPort_touches _ _) rfl rfl).seq (acceptFrame_touches h _ _)
  · exact (beginFrame_touches _ _).within rfl

/-! ## The link and the resets -/

/-- Everything that a step but a power row may change: every block. -/
abbrev all : List Block := .clock :: .inputs :: lane

theorem dispatchAll_touches (l : List Frame) (s : State) : Touches lane s (dispatchAll l s) := by
  induction l generalizing s with
  | nil => exact (State.modPort_touches _ _).within rfl
  | cons f rest ih =>
    unfold dispatchAll
    split
    · exact (State.modPort_touches _ _).within rfl
    · exact (((State.modPort_touches _ _).within rfl).seq (dispatch_touches (frameCommand_within f) _ _)).seq (ih _)

theorem dropAssembly_touches (b : Bool) (s : State) : Touches [.port] s (dropAssembly b s) := State.modPort_touches _ _

theorem takeHeader_touches (d : Byte) (s : State) : Touches [.port] s (takeHeader d s) := by
  unfold takeHeader
  split
  · exact beginFrame_touches _ _
  · split
    · exact (countLink_touches _ _).seq (dropAssembly_touches _ _)
    · exact dropAssembly_touches _ _

theorem takeData_touches (a : Assembly) (d : Byte) (s : State) : Touches lane s (takeData a d s) := by
  unfold takeData
  dsimp only
  split
  · exact (dropAssembly_touches _ _).next (countLink_touches _ _) rfl rfl
  · split
    · unfold completeFrame
      dsimp only
      split
      · exact ((dropAssembly_touches _ _).within rfl).seq (acceptFrame_touches (frameCommand_within _) _ _)
      · exact (dropAssembly_touches _ _).next (countLink_touches _ _) rfl rfl
    · exact (State.modPort_touches _ _).within rfl

theorem takeStray_touches (b : Bool) (s : State) : Touches [.port] s (takeStray b s) := by
  unfold takeStray
  split
  · exact .refl _ _
  · exact countLink_touches _ _

theorem takeLinkCharacter_touches (m : Bool) (d : Byte) (e : Bool) (s : State) :
    Touches lane s (takeLinkCharacter m d e s) := by
  unfold takeLinkCharacter
  split
  · exact (dropAssembly_touches _ _).next (countLink_touches _ _) rfl rfl
  · exact (takeStray_touches _ _).within rfl
  · split
    · exact (takeHeader_touches _ _).within rfl
    · exact takeData_touches _ _ _
  · split
    · exact (takeHeader_touches _ _).within rfl
    · exact (takeStray_touches _ _).within rfl

theorem formResetStates_touches (s : State) : Touches [.port] s (formResetStates s) :=
  ((formScaleState_touches _).seq (formDrawerState_touches _)).seq (formPrinterState_touches _)

theorem laneReset_touches (l : InputLevels) (s : State) : Touches all s (laneReset l s) := by
  unfold laneReset
  refine Touches.seq (Touches.seq ?_ ((formDrawerState_touches _).within rfl)) ((formPrinterState_touches _).within rfl)
  constructor <;> simp [all, lane]

theorem fullReset_touches (l : InputLevels) (s : State) : Touches all s (fullReset l s) := by
  unfold fullReset
  refine Touches.seq ?_ ((formResetStates_touches _).within rfl)
  constructor <;> simp [all, lane, freshBlocks]

theorem changeRate_touches (s : State) : Touches lane s (changeRate s) := by
  unfold changeRate
  dsimp only
  refine Touches.seq ?_ (dispatchAll_touches _ _)
  split
  · exact ((dropAssembly_touches _ _).next (countLink_touches _ _) rfl rfl).seq ((State.modPort_touches _ _).within rfl)
  · exact (State.modPort_touches _ _).within rfl

theorem takeCandidate_touches {k : Nat} {s t : State} {r : Report} (h : takeCandidate k s = some (r, t)) :
    Touches lane s t := by
  unfold takeCandidate at h
  split at h
  all_goals first
    | (simp only [Option.map_eq_some_iff, Prod.mk.injEq] at h
       obtain ⟨_, _, _, rfl⟩ := h
       first
        | exact (State.modScale_touches _ _).within rfl
        | exact (State.modScan_touches _ _).within rfl
        | exact (State.modSwipe_touches _ _).within rfl
        | exact (State.modSales_touches _ _).within rfl
        | exact (State.modDrawer_touches _ _).within rfl
        | exact (State.modPrinter_touches _ _).within rfl
        | exact (State.modPort_touches _ _).within rfl)
    | cases h

theorem firstCandidate_touches {l : List Nat} {k : Nat} {s t : State} {r : Report}
    (h : firstCandidate s l = some (k, r, t)) : Touches lane s t := by
  induction l with
  | nil => cases h
  | cons j rest ih =>
    unfold firstCandidate at h
    split at h
    · next e => cases h; exact takeCandidate_touches e
    · exact ih h

theorem afterAdmission_touches (k : Nat) (s : State) : Touches all s (afterAdmission k s) := by
  unfold afterAdmission
  split
  · exact (processWaitingScan_touches _).within rfl
  · exact (processWaitingCard_touches _).within rfl
  · exact (takeDeferred_touches _).within rfl
  · exact (goOn_touches _).within rfl
  · exact .refl _ _

theorem admitReport_touches (s : State) : Touches all s (admitReport s) := by
  unfold admitReport
  split
  · split
    · next h =>
      exact ((((firstCandidate_touches h).within rfl).seq ((enqueue_touches _ _).within rfl)).seq
        ((State.modPort_touches _ _).within rfl)).seq (afterAdmission_touches _ _)
    · exact .refl _ _
  · exact .refl _ _

theorem frameLeft_touches (x : TxFrame) (l : InputLevels) (s : State) : Touches all s (frameLeft x l s) := by
  unfold frameLeft
  split
  · exact (State.modScale_touches _ _).within rfl
  · unfold afterResponse
    split
    · exact .refl _ _
    · exact (changeRate_touches _).within rfl
    · exact laneReset_touches _ _
    · exact fullReset_touches _ _
  · exact .refl _ _

theorem endFrame_touches (l : InputLevels) (s : State) : Touches all s (endFrame l s) := by
  unfold endFrame
  split
  · exact .refl _ _
  · next x _ =>
    refine Touches.seq (t := frameLeft x l (s.modPort fun p => { p with tx := none }))
      (((State.modPort_touches _ _).within rfl).seq (frameLeft_touches _ _ _)) ?_
    unfold takeNextFrame
    dsimp only
    split
    · exact ((State.modPort_touches _ _).within rfl).seq (admitReport_touches _)
    · exact (State.modPort_touches _ _).within rfl

end Sys2Proof.Machine
end

