-- ==== Sys2Proof/Laws/Link.lean ====
section
/-! SUPPORT. The port: what the transmitter, a report and a response do to what the host receives, and the one lemma through which a
host command's row is proved to be performed. -/

namespace Sys2Proof.Machine

@[simp] theorem Port.answers_startFrame (p : Port) : p.startFrame.answers = p.answers := by
  unfold Port.startFrame
  split
  · rfl
  · next h =>
    split <;> simp_all [Port.answers]

@[simp] theorem Port.sending_startFrame (p : Port) : p.startFrame.sending = p.sending := by
  unfold Port.startFrame
  split
  · rfl
  · next h =>
    split <;> simp_all [Port.sending]

/-- All that the transmitter's next frame changes of the port. -/
theorem Port.startFrame_eq (p : Port) :
    p.startFrame = { p with responses := p.startFrame.responses, reports := p.startFrame.reports, tx := p.startFrame.tx } := by
  unfold Port.startFrame
  split
  · rfl
  · split <;> rfl

/-- A settled transmitter takes no frame. -/
theorem Port.startFrame_settled {p : Port} (h : Settled p) : p.startFrame = p := by
  unfold Port.startFrame
  split
  · rfl
  · next e =>
    rcases h with h | ⟨h, g⟩
    · simp [e] at h
    · rw [h, g]

/-- The part of the port that a report may change: the report queue and the state-report slots. -/
structure Reported (p q : Port) : Prop where
  eq : q = { p with reports := q.reports, liveSlot := q.liveSlot, scaleSlot := q.scaleSlot, drawerSlot := q.drawerSlot,
                    printerSlot := q.printerSlot }

theorem Reported.refl (p : Port) : Reported p p := ⟨rfl⟩

theorem Reported.trans {p q r : Port} (h : Reported p q) (g : Reported q r) : Reported p r := by
  obtain ⟨h⟩ := h
  obtain ⟨g⟩ := g
  constructor
  rw [h] at g
  exact g

theorem Reported.answers {p q : Port} (h : Reported p q) : q.answers = p.answers := by
  rw [h.eq]; rfl

theorem enqueue_reported (r : Report) (s : State) : Reported s.port (enqueue r s).port := ⟨rfl⟩

theorem offerWeight_reported (r : WeightReport) (s : State) : Reported s.port (offerWeight r s).port := by
  unfold offerWeight; split <;> exact ⟨rfl⟩
theorem offerScan_reported (r : ScanReport) (s : State) : Reported s.port (offerScan r s).port := by
  unfold offerScan; split <;> exact ⟨rfl⟩
theorem offerCard_reported (r : CardReport) (s : State) : Reported s.port (offerCard r s).port := by
  unfold offerCard; split <;> exact ⟨rfl⟩
theorem offerSale_reported (r : SaleReport) (s : State) : Reported s.port (offerSale r s).port := by
  unfold offerSale; split <;> exact ⟨rfl⟩
theorem offerDrawer_reported (r : DrawerReport) (s : State) : Reported s.port (offerDrawer r s).port := by
  unfold offerDrawer; split <;> exact ⟨rfl⟩
theorem offerPrinter_reported (r : PrinterReport) (s : State) : Reported s.port (offerPrinter r s).port := by
  unfold offerPrinter; split <;> exact ⟨rfl⟩

theorem placeState_reported (k : StateKind) (r : Report) (b : Bool) (f : Port → Port) (s : State)
    (h : Reported s.port (f s.port)) : Reported s.port (placeState k r b f s).port := by
  unfold placeState
  split
  · exact ⟨rfl⟩
  · split
    · exact h
    · split
      · exact ⟨rfl⟩
      · exact h

theorem formScaleState_reported (s : State) : Reported s.port (formScaleState s).port :=
  placeState_reported _ _ _ _ _ ⟨rfl⟩
theorem formLive_reported (s : State) : Reported s.port (formLive s).port := placeState_reported _ _ _ _ _ ⟨rfl⟩
theorem formDrawerState_reported (s : State) : Reported s.port (formDrawerState s).port :=
  placeState_reported _ _ _ _ _ ⟨rfl⟩
theorem formPrinterState_reported (s : State) : Reported s.port (formPrinterState s).port :=
  placeState_reported _ _ _ _ _ ⟨rfl⟩

/-! ## The trails: a report formed stands behind those formed before it -/

theorem offerWeight_trail (r : WeightReport) (s : State) : (offerWeight r s).weightTrail = s.weightTrail ++ [r] := by
  unfold offerWeight
  split
  · next h =>
    have e : s.scale.outcomes = [] := by
      simp only [joinsAtOnce, nothingWaits, Bool.and_eq_true, List.isEmpty_iff] at h
      exact h.2.1.1.1.1.1.1.1.1.1
    simp [State.weightTrail, enqueue, Port.sending, Report.weight?, e]
  · simp [State.weightTrail]

theorem offerScan_trail (r : ScanReport) (s : State) (e : s.scan.slot = none) :
    (offerScan r s).scanTrail = s.scanTrail ++ [r] := by
  unfold offerScan
  split <;> simp [State.scanTrail, enqueue, Port.sending, Report.scan?, e]

theorem offerCard_trail (r : CardReport) (s : State) (e : s.swipe.reportBuffer = none) :
    (offerCard r s).cardTrail = s.cardTrail ++ [r] := by
  unfold offerCard
  split <;> simp [State.cardTrail, enqueue, Port.sending, Report.card?, e]

theorem offerSale_trail (r : SaleReport) (s : State) : (offerSale r s).saleTrail = s.saleTrail ++ [r] := by
  unfold offerSale
  split
  · next h =>
    have e : s.sales.reports = [] := by
      simp only [joinsAtOnce, nothingWaits, Bool.and_eq_true, List.isEmpty_iff] at h
      exact h.2.1.1.1.1.1.1.2
    simp [State.saleTrail, enqueue, Port.sending, Report.sale?, e]
  · simp [State.saleTrail]

theorem offerDrawer_trail (r : DrawerReport) (s : State) : (offerDrawer r s).drawerTrail = s.drawerTrail ++ [r] := by
  unfold offerDrawer
  split
  · next h =>
    have e : s.drawer.reports = [] := by
      simp only [joinsAtOnce, nothingWaits, Bool.and_eq_true, List.isEmpty_iff] at h
      exact h.2.1.1.1.1.1.2
    simp [State.drawerTrail, enqueue, Port.sending, Report.drawer?, e]
  · simp [State.drawerTrail]

theorem offerPrinter_trail (r : PrinterReport) (s : State) : (offerPrinter r s).printerTrail = s.printerTrail ++ [r] := by
  unfold offerPrinter
  split
  · next h =>
    have e : s.printer.reports = [] := by
      simp only [joinsAtOnce, nothingWaits, Bool.and_eq_true, List.isEmpty_iff] at h
      exact h.2.1.1.1.1.2
    simp [State.printerTrail, enqueue, Port.sending, Report.printer?, e]
  · simp [State.printerTrail]

/-! ## A host command that is performed -/

/-- The state in which a whole frame finds the part when it is performed: its header has taken the place of a frame in assembly, and it
has been counted. -/
def framed (s : State) : State :=
  s.modPort fun p => { p with assembly := none, ignoring := false, counters := countedFrame p }

@[simp] theorem framed_powered (s : State) : (framed s).powered = s.powered := rfl
@[simp] theorem framed_clock (s : State) : (framed s).clock = s.clock := rfl
@[simp] theorem framed_inputs (s : State) : (framed s).inputs = s.inputs := rfl
@[simp] theorem framed_mgmt (s : State) : (framed s).mgmt = s.mgmt := rfl
@[simp] theorem framed_scale (s : State) : (framed s).scale = s.scale := rfl
@[simp] theorem framed_store (s : State) : (framed s).store = s.store := rfl
@[simp] theorem framed_scan (s : State) : (framed s).scan = s.scan := rfl
@[simp] theorem framed_swipe (s : State) : (framed s).swipe = s.swipe := rfl
@[simp] theorem framed_sales (s : State) : (framed s).sales = s.sales := rfl
@[simp] theorem framed_drawer (s : State) : (framed s).drawer = s.drawer := rfl
@[simp] theorem framed_printer (s : State) : (framed s).printer = s.printer := rfl
@[simp] theorem framed_supply (s : State) : (framed s).supply = s.supply := rfl
@[simp] theorem framed_pending (s : State) : (framed s).pending = s.pending := rfl
@[simp] theorem framed_reports (s : State) : (framed s).port.reports = s.port.reports := rfl
@[simp] theorem framed_sending (s : State) : (framed s).port.sending = s.port.sending := rfl

/-- The frame of a command that is ready to be performed: the command runs on the state that the frame leaves, and its response follows. -/
theorem runCommand_ready (f : Frame) (cmd : Command) {s : State} (h : Ready s) :
    runCommand f cmd s = .next ((respond f (cmd (framed s)).1 (cmd (framed s)).2).modPort Port.startFrame) := by
  obtain ⟨hp, hq, hw, hr⟩ := h
  have e1 : receiveFrame f cmd s = respond f (cmd (framed s)).1 (cmd (framed s)).2 := by
    have hb : ¬ 2 ≤ s.port.waiting.length := by omega
    have hb4 : ¬ 4 ≤ s.port.responses.length := by omega
    have e0 : (countLink (fun k => { k with framesOk := satInc k.framesOk })
        ((beginFrame f.node s).modPort fun p => { p with assembly := none })) = framed s := by
      cases ha : s.port.assembly <;>
        simp [beginFrame, framed, countedFrame, if_neg hb, countLink, State.modPort, ha]
    have e3 : (beginFrame f.node s).port.pause = false := by
      unfold beginFrame
      simp only [if_neg hb]
      split <;> exact hq
    have e4 : (beginFrame f.node s).port.assembly.isSome = true := by
      unfold beginFrame
      simp only [if_neg hb]
      split <;> rfl
    unfold receiveFrame
    simp only [e4, if_true]
    unfold acceptFrame
    simp only [State.modPort_port, e3]
    rw [e0]
    unfold dispatch
    have : ¬ 4 ≤ (framed s).port.responses.length := hb4
    simp [this]
  unfold runCommand run
  simp [hp, e1]

/-- A state that differs from another in its port alone, and there in nothing that the host receives as a report. -/
structure SameReports (u t : State) : Prop where
  rest : t = { u with port := t.port }
  sending : t.port.sending = u.port.sending
  live : t.port.liveSlot = u.port.liveSlot
  scale : t.port.scaleSlot = u.port.scaleSlot
  drawer : t.port.drawerSlot = u.port.drawerSlot
  printer : t.port.printerSlot = u.port.printerSlot

/-- A host command performs as its tests and its effect say, on the state that its frame leaves. -/
theorem performs_of {i : Instr} {cmd : Command} {s : State} {st : Status} {r : Result} {p : State → Prop}
    (he : exec i s = runCommand (encodeFrame i) cmd s) (hr : Ready s) (hc : (cmd (framed s)).1 = ⟨st, r, .nothing⟩)
    (hp : Reported (framed s).port (cmd (framed s)).2.port) (h : ∀ t, SameReports (cmd (framed s)).2 t → p t) :
    Performs i s st r p := by
  refine ⟨_, he.trans (runCommand_ready _ _ hr), ?_, ?_, h _ ?_⟩
  · simp only [State.modPort_port, Port.answers_startFrame, hc, responseTo]
    have : (respond (encodeFrame i) ⟨st, r, .nothing⟩ (cmd (framed s)).2).port.answers
        = (cmd (framed s)).2.port.answers ++ [⟨(encodeFrame i).node, (encodeFrame i).code, (encodeFrame i).tag, st, r, .nothing⟩] := by
      simp [respond, Port.answers]
    rw [this, hp.answers]
    rfl
  · unfold LinkFrame
    rw [State.modPort_port, Port.startFrame_eq]
    unfold respond
    rw [State.modPort_port, hp.eq]
    rfl
  · refine ⟨rfl, ?_, ?_, ?_, ?_, ?_⟩
    · rw [State.modPort_port, Port.sending_startFrame]; rfl
    all_goals (rw [State.modPort_port, Port.startFrame_eq]; rfl)

/-- A refusal, performed. -/
theorem onlyAnswers_of {i : Instr} {cmd : Command} {s : State} {st : Status} {r : Result}
    (he : exec i s = runCommand (encodeFrame i) cmd s) (hr : Ready s) (hc : cmd (framed s) = (⟨st, r, .nothing⟩, framed s)) :
    OnlyAnswers i s st r := by
  refine performs_of he hr (by rw [hc]) (by rw [hc]; exact .refl _) fun t ht => ?_
  rw [hc] at ht
  exact ⟨⟨ht.sending, ht.live, ht.scale, ht.drawer, ht.printer⟩, ht.rest⟩

/-- A row of the lane, with the supply up: its effect, and then the idle transmitter. -/
theorem runs_of {i : Instr} {f : State → State} {s : State} {p : State → Prop} (he : exec i s = run f s)
    (hs : s.powered = true) (h : ∀ t, SameReports (f s) t → t.port = (f s).port.startFrame → p t) : Runs i s p := by
  refine ⟨(f s).modPort Port.startFrame, ?_, h _ ?_ rfl⟩
  · rw [he]; simp [run, hs]
  · refine ⟨rfl, ?_, ?_, ?_, ?_, ?_⟩
    · rw [State.modPort_port, Port.sending_startFrame]
    all_goals (rw [State.modPort_port, Port.startFrame_eq])

end Sys2Proof.Machine
end

