-- ==== Sys2Proof/Laws/PerInstr.lean ====
section
/-! SUPPORT. For every command: its frame fits the link, and spells it. -/

namespace Sys2Proof.Laws.FrameFits

open Sys2Proof.Machine

/-- The frame of a well-formed command carries at most 240 characters (R178), and that of a host command other than UNKNOWN_COMMAND has a
node and a code that name a command (13.2). -/
def Statement (i : Instr) : Prop :=
  i.wellFormed = true → (encodeFrame i).payload.length ≤ 240
    ∧ (i.isHostCommand = true → (∀ tag node code payload, i ≠ .unknownCommand tag node code payload) →
        namesCommand (encodeFrame i).node (encodeFrame i).code = true)

/-- A row that is no host command meets the statement by its frame of no payload. -/
theorem ofRow {i : Instr} (h : i.isHostCommand = false) (p : (encodeFrame i).payload = []) : Statement i := by
  intro _
  rw [p]
  exact ⟨Nat.zero_le _, fun g => absurd g (by simp [h])⟩

/-- A host command meets the statement by the length of its payload and by its node and code. -/
theorem ofCommand {i : Instr} (p : i.wellFormed = true → (encodeFrame i).payload.length ≤ 240)
    (c : namesCommand (encodeFrame i).node (encodeFrame i).code = true) : Statement i :=
  fun w => ⟨p w, fun _ _ => c⟩

theorem powerOn (levels : InputLevels) (volts : BitVec 16) (temp : Int) : Statement (.powerOn levels volts temp) := ofRow rfl rfl
theorem linkBreak (levels : InputLevels) : Statement (.linkBreak levels) := ofRow rfl rfl
theorem linkCharacterReceived (mark : Bool) (data : Byte) (framingError : Bool) : Statement (.linkCharacterReceived mark data framingError) :=
  ofRow rfl rfl
theorem unknownCommand (tag : Byte) (node : BitVec 3) (code : Byte) (payload : List Byte) : Statement (.unknownCommand tag node code payload) :=
  by
  intro w
  refine ⟨?_, fun _ h => absurd rfl (h tag node code payload)⟩
  simp only [Instr.wellFormed, Bool.and_eq_true, decide_eq_true_eq] at w
  exact w.2
theorem frameTransmitEnd (levels : InputLevels) : Statement (.frameTransmitEnd levels) := ofRow rfl rfl
theorem reportAdmission : Statement .reportAdmission := ofRow rfl rfl
theorem identify (tag : Byte) : Statement (.identify tag) := ofCommand (fun _ => Nat.le_of_ble_eq_true rfl) rfl
theorem getStatus (tag : Byte) : Statement (.getStatus tag) := ofCommand (fun _ => Nat.le_of_ble_eq_true rfl) rfl
theorem setParameter (tag number : Byte) (value : BitVec 32) : Statement (.setParameter tag number value) :=
  ofCommand (fun _ => Nat.le_of_ble_eq_true rfl) rfl
theorem getParameter (tag number : Byte) : Statement (.getParameter tag number) :=
  ofCommand (fun _ => Nat.le_of_ble_eq_true rfl) rfl
theorem clearTable (tag table : Byte) : Statement (.clearTable tag table) := ofCommand (fun _ => Nat.le_of_ble_eq_true rfl) rfl
theorem loadEntries (tag table start count : Byte) (entries : List Byte) : Statement (.loadEntries tag table start count entries) :=
  by
  refine ofCommand (fun w => ?_) rfl
  simp only [Instr.wellFormed, decide_eq_true_eq] at w
  simp only [encodeFrame, List.length_cons]
  omega
theorem closeTable (tag table expected : Byte) : Statement (.closeTable tag table expected) :=
  ofCommand (fun _ => Nat.le_of_ble_eq_true rfl) rfl
theorem readEntry (tag table index : Byte) : Statement (.readEntry tag table index) :=
  ofCommand (fun _ => Nat.le_of_ble_eq_true rfl) rfl
theorem readCounters (tag group : Byte) : Statement (.readCounters tag group) :=
  ofCommand (fun _ => Nat.le_of_ble_eq_true rfl) rfl
theorem clearCounters (tag group : Byte) : Statement (.clearCounters tag group) :=
  ofCommand (fun _ => Nat.le_of_ble_eq_true rfl) rfl
theorem setIndicator (tag target value : Byte) : Statement (.setIndicator tag target value) :=
  ofCommand (fun _ => Nat.le_of_ble_eq_true rfl) rfl
theorem reset (tag kind : Byte) : Statement (.reset tag kind) := ofCommand (fun _ => Nat.le_of_ble_eq_true rfl) rfl
theorem setLinkRate (tag rate : Byte) : Statement (.setLinkRate tag rate) := ofCommand (fun _ => Nat.le_of_ble_eq_true rfl) rfl
theorem holdScanner (tag : Byte) : Statement (.holdScanner tag) := ofCommand (fun _ => Nat.le_of_ble_eq_true rfl) rfl
theorem releaseScanner (tag : Byte) : Statement (.releaseScanner tag) := ofCommand (fun _ => Nat.le_of_ble_eq_true rfl) rfl
theorem holdSwipe (tag : Byte) : Statement (.holdSwipe tag) := ofCommand (fun _ => Nat.le_of_ble_eq_true rfl) rfl
theorem releaseSwipe (tag : Byte) : Statement (.releaseSwipe tag) := ofCommand (fun _ => Nat.le_of_ble_eq_true rfl) rfl
theorem sampleTrigger (raw : BitVec 24) : Statement (.sampleTrigger raw) := ofRow rfl rfl
theorem liveReport : Statement .liveReport := ofRow rfl rfl
theorem starvation : Statement .starvation := ofRow rfl rfl
theorem converterFaultEntry : Statement .converterFaultEntry := ofRow rfl rfl
theorem converterFaultExit : Statement .converterFaultExit := ofRow rfl rfl
theorem warmingEnd : Statement .warmingEnd := ofRow rfl rfl
theorem zeroTracking : Statement .zeroTracking := ofRow rfl rfl
theorem shockHoldEnd : Statement .shockHoldEnd := ofRow rfl rfl
theorem sealSwitchChange (level : SealLevel) : Statement (.sealSwitchChange level) := ofRow rfl rfl
theorem setZero (tag : Byte) : Statement (.setZero tag) := ofCommand (fun _ => Nat.le_of_ble_eq_true rfl) rfl
theorem requestWeight (tag tareClass : Byte) (sale : BitVec 16) : Statement (.requestWeight tag tareClass sale) :=
  ofCommand (fun _ => Nat.le_of_ble_eq_true rfl) rfl
theorem cancelWeighRequest (tag : Byte) (token : BitVec 16) : Statement (.cancelWeighRequest tag token) :=
  ofCommand (fun _ => Nat.le_of_ble_eq_true rfl) rfl
theorem weighTimeout : Statement .weighTimeout := ofRow rfl rfl
theorem setCapacity (tag : Byte) (max d1 d2 range1 : BitVec 32) : Statement (.setCapacity tag max d1 d2 range1) :=
  ofCommand (fun _ => Nat.le_of_ble_eq_true rfl) rfl
theorem captureCalZero (tag : Byte) : Statement (.captureCalZero tag) := ofCommand (fun _ => Nat.le_of_ble_eq_true rfl) rfl
theorem captureCalPoint (tag index : Byte) (mass : BitVec 32) : Statement (.captureCalPoint tag index mass) :=
  ofCommand (fun _ => Nat.le_of_ble_eq_true rfl) rfl
theorem setCalPoint (tag index : Byte) (count mass : BitVec 32) : Statement (.setCalPoint tag index count mass) :=
  ofCommand (fun _ => Nat.le_of_ble_eq_true rfl) rfl
theorem commitCalibration (tag : Byte) : Statement (.commitCalibration tag) := ofCommand (fun _ => Nat.le_of_ble_eq_true rfl) rfl
theorem calEraseEnd : Statement .calEraseEnd := ofRow rfl rfl
theorem commitComplete : Statement .commitComplete := ofRow rfl rfl
theorem discardCalibration (tag : Byte) : Statement (.discardCalibration tag) :=
  ofCommand (fun _ => Nat.le_of_ble_eq_true rfl) rfl
theorem scannerCharacter (data : Byte) (framingError : Bool) : Statement (.scannerCharacter data framingError) := ofRow rfl rfl
theorem scanProcessing : Statement .scanProcessing := ofRow rfl rfl
theorem swipeEdge : Statement .swipeEdge := ofRow rfl rfl
theorem swipeArm : Statement .swipeArm := ofRow rfl rfl
theorem swipeEnd : Statement .swipeEnd := ofRow rfl rfl
theorem cardProcessing : Statement .cardProcessing := ofRow rfl rfl
theorem openSale (tag : Byte) : Statement (.openSale tag) := ofCommand (fun _ => Nat.le_of_ble_eq_true rfl) rfl
theorem setDue (tag : Byte) (sale : BitVec 16) (amount : BitVec 32) : Statement (.setDue tag sale amount) :=
  ofCommand (fun _ => Nat.le_of_ble_eq_true rfl) rfl
theorem beginTender (tag : Byte) (sale : BitVec 16) : Statement (.beginTender tag sale) :=
  ofCommand (fun _ => Nat.le_of_ble_eq_true rfl) rfl
theorem resumeSale (tag : Byte) (sale : BitVec 16) : Statement (.resumeSale tag sale) :=
  ofCommand (fun _ => Nat.le_of_ble_eq_true rfl) rfl
theorem addTender (tag : Byte) (sale : BitVec 16) (kind : Byte) (amount change : BitVec 32) (ref : Byte) : Statement (.addTender tag sale kind amount change ref) :=
  ofCommand (fun _ => Nat.le_of_ble_eq_true rfl) rfl
theorem withdrawTender (tag : Byte) (sale : BitVec 16) : Statement (.withdrawTender tag sale) :=
  ofCommand (fun _ => Nat.le_of_ble_eq_true rfl) rfl
theorem settle (tag : Byte) (sale : BitVec 16) : Statement (.settle tag sale) :=
  ofCommand (fun _ => Nat.le_of_ble_eq_true rfl) rfl
theorem voidToken (tag : Byte) (sale token : BitVec 16) : Statement (.voidToken tag sale token) :=
  ofCommand (fun _ => Nat.le_of_ble_eq_true rfl) rfl
theorem abortSale (tag : Byte) (sale : BitVec 16) : Statement (.abortSale tag sale) :=
  ofCommand (fun _ => Nat.le_of_ble_eq_true rfl) rfl
theorem releaseSale (tag : Byte) (sale : BitVec 16) : Statement (.releaseSale tag sale) :=
  ofCommand (fun _ => Nat.le_of_ble_eq_true rfl) rfl
theorem getSale (tag slot part : Byte) (start : Option Byte) : Statement (.getSale tag slot part start) := by
  cases start <;> exact ofCommand (fun _ => Nat.le_of_ble_eq_true rfl) rfl
theorem openDrawer (tag : Byte) (sale : BitVec 16) : Statement (.openDrawer tag sale) :=
  ofCommand (fun _ => Nat.le_of_ble_eq_true rfl) rfl
theorem openDrawerNoSale (tag : Byte) : Statement (.openDrawerNoSale tag) := ofCommand (fun _ => Nat.le_of_ble_eq_true rfl) rfl
theorem grant : Statement .grant := ofRow rfl rfl
theorem grantEnd : Statement .grantEnd := ofRow rfl rfl
theorem drawerPulseEnd : Statement .drawerPulseEnd := ofRow rfl rfl
theorem confirmationDeadline : Statement .confirmationDeadline := ofRow rfl rfl
theorem drawerOverdue : Statement .drawerOverdue := ofRow rfl rfl
theorem drawerSenseChange (level : SenseLevel) : Statement (.drawerSenseChange level) := ofRow rfl rfl
theorem drawerSenseDeferred : Statement .drawerSenseDeferred := ofRow rfl rfl
theorem appendLines (tag : Byte) (sale : BitVec 16) (records : List Byte) : Statement (.appendLines tag sale records) := by
  refine ofCommand (fun w => ?_) rfl
  simp only [Instr.wellFormed, decide_eq_true_eq] at w
  simp only [encodeFrame, List.length_append, be16, List.length_cons, List.length_nil]
  omega
theorem closeReceipt (tag : Byte) (sale : BitVec 16) : Statement (.closeReceipt tag sale) :=
  ofCommand (fun _ => Nat.le_of_ble_eq_true rfl) rfl
theorem resumePrinting (tag : Byte) : Statement (.resumePrinting tag) := ofCommand (fun _ => Nat.le_of_ble_eq_true rfl) rfl
theorem lineBegin : Statement .lineBegin := ofRow rfl rfl
theorem cutComplete : Statement .cutComplete := ofRow rfl rfl
theorem printerSwitchChange (switch : PrinterSwitch) : Statement (.printerSwitchChange switch) := ofRow rfl rfl
theorem thermistorReading (temp : Int) : Statement (.thermistorReading temp) := ofRow rfl rfl
theorem supplyReading (volts : BitVec 16) : Statement (.supplyReading volts) := ofRow rfl rfl
theorem beepEnd : Statement .beepEnd := ofRow rfl rfl
theorem blinkPhase : Statement .blinkPhase := ofRow rfl rfl
theorem powerLoss : Statement .powerLoss := ofRow rfl rfl
theorem cutterSwitchChange (level : CutterLevel) : Statement (.cutterSwitchChange level) := ofRow rfl rfl

end Sys2Proof.Laws.FrameFits
end

