-- ==== Sys2Proof/Machine/Encode.lean ====
section
/-! DEFINITION. What leaves the part: the characters of every response and report (R190, 13.2 to 13.5). No step reads them; they say
what the host sees of a frame in transmission. Where the spec gives a field neither a size nor a kind, log 19 says what stands here. -/

namespace Sys2Proof.Machine

/-! ## Fields (R190) -/

/-- An optional byte: FF hex when absent. -/
def optByte : Option Nat → Byte
  | some n => byteOf n
  | none => 0xFF

/-- An optional mass: 80000000 hex when absent. -/
def optMass : Option Int → List Byte
  | some m => signed32 m
  | none => [0x80, 0, 0, 0]

/-- An optional 2-byte quantity: FFFF hex when absent. -/
def opt16 : Option Nat → List Byte
  | some n => field16 n
  | none => [0xFF, 0xFF]

/-- A character string: its length and its characters. -/
def stringBytes (l : List Byte) : List Byte := byteOf l.length :: l

/-- An optional character string: length FF hex when absent. -/
def optString : Option (List Byte) → List Byte
  | some l => stringBytes l
  | none => [0xFF]

/-- A masked digit string; the mask mark is 2A hex. -/
def maskedBytes (m : Masked) : List Byte := m.map fun d => match d with
  | some n => digitChar n
  | none => 0x2A

/-- An optional masked digit string. -/
def optMasked (m : Option Masked) : List Byte := optString (m.map maskedBytes)

/-- A list: one count byte and its elements. -/
def listBytes {E : Type} (f : E → List Byte) (l : List E) : List Byte := byteOf l.length :: l.flatMap f

/-- The opening order: 0 FIRST, 1 SECOND (13.4). -/
def orderByte (first : Bool) : Byte := if first then 0 else 1

/-! ## Reports (13.4) -/

/-- The payload of a WEIGHT report. -/
def WeightReport.payload (r : WeightReport) : List Byte :=
  let f := r.figures
  field16 r.token ++ field16 r.sale ++ [byteOf r.source.code, byteOf r.tareClass, byteOf r.outcome.code] ++ be32 r.endTime
    ++ signed32 ((f.map Figures.g).getD 0) ++ [optByte (f.map fun x => x.d.toNat)]
    ++ signed32 ((f.map Figures.t).getD 0) ++ signed32 ((f.map Figures.n).getD 0) ++ optString r.itemCode

/-- The payload of a SCAN report. -/
def ScanReport.payload (r : ScanReport) : List Byte :=
  be32 r.time ++ field16 r.sale ++ [byteOf r.disposition.code, optByte (r.itemClass.map ItemClass.code), optByte r.index,
    byteOf r.flags.bits] ++ field16 (r.token.getD 0)
    ++ [optByte r.tareClass, optByte (r.embedded.map fun e => e.1.code)]
    ++ (match r.embedded with
      | some e => field32 e.2
      | none => [0xFF, 0xFF, 0xFF, 0xFF])
    ++ stringBytes r.code

/-- The payload of a CARD report. The default applied and the account check are FF hex where the rule gives none (DESIGN CHOICE, log 19). -/
def CardReport.payload (r : CardReport) : List Byte :=
  field16 r.swipe ++ be32 r.endTime ++ be32 r.time ++ [byteOf r.outcome.code] ++ field16 (r.position.getD 0)
    ++ field16 r.count ++ opt16 r.cell
    ++ [optByte (r.direction.map Direction.code), byteOf r.cardClass.code, optByte (r.profile.map Prod.fst),
        optByte (r.profile.map fun p => if p.2 then 1 else 0), optByte (r.check.map fun c => if c then 0 else 1)]
    ++ field16 r.sale ++ [byteOf r.attachment.code, byteOf (r.refIndex.getD 0), byteOf r.flags.bits]
    ++ optMasked r.fields.number ++ optMasked r.fields.account ++ optMasked r.fields.expiry ++ optMasked r.fields.service
    ++ optMasked r.fields.discretionary

/-- The SUMMARY figures from the print turn on. -/
def SaleSummary.bytes (r : SaleSummary) : List Byte :=
  flagByte r.holdsTurn :: (field32 r.due ++ [byteOf r.tenders] ++ field32 r.amounts ++ field32 r.changes
    ++ [byteOf r.granted, byteOf r.used, byteOf r.tokens] ++ r.tokenStates.map byteOf
    ++ [byteOf r.refs, flagByte r.loyalty, flagByte r.linePrinted, flagByte r.aborted])

/-- The payload of a SALE report. -/
def SaleReport.payload (r : SaleReport) : List Byte :=
  field16 r.sale ++ [byteOf r.slot, byteOf r.newState.code, byteOf r.previous.code, byteOf r.cause.code] ++ be32 r.time
    ++ [orderByte r.first] ++ r.summary.bytes

/-- The payload of a DRAWER report (R135). -/
def DrawerReport.payload (r : DrawerReport) : List Byte :=
  [byteOf r.kind.code] ++ be32 r.time ++ field16 r.sale ++ [optByte r.position, optByte r.attempt, byteOf r.bits]

/-- A permit served: its sale number and tender position; 0 and 0 for a no-sale opening. -/
def permitBytes : Option Permit → List Byte
  | some (.tender sale position) => field16 sale ++ [byteOf position]
  | some .noSale => [0, 0, 0]
  | none => [0, 0, 0xFF]

/-- The payload of a DRAWER_STATE report (R135). -/
def DrawerStateReport.payload (r : DrawerStateReport) : List Byte :=
  [byteOf r.state.code] ++ permitBytes r.permit ++ [optByte r.attempt, byteOf (senseCode r.sense)] ++ opt16 r.amount

/-- The payload of a PRINTER report (R155), its kind first (DESIGN CHOICE, log 19). -/
def PrinterReport.payload : PrinterReport → List Byte
  | .tokenPrinted token sale net format time =>
    [0] ++ field16 token ++ field16 sale ++ signed32 net ++ [byteOf format.code] ++ be32 time
  | .cut sale aborted lines time => [1] ++ field16 sale ++ [flagByte aborted] ++ field32 lines ++ be32 time

/-- The payload of a LIVE report (R25). -/
def LiveReport.payload (r : LiveReport) : List Byte := byteOf r.load.code :: optMass r.g

/-- The payload of a SCALE_STATE report (R24). -/
def ScaleStateReport.payload (r : ScaleStateReport) : List Byte :=
  [byteOf r.engine.code, optByte r.engine.causeCode, byteOf r.load.code] ++ optMass r.g ++ signed32 r.zMg
    ++ [flagByte r.armed, flagByte r.trackLimit] ++ field32 r.counter ++ [byteOf r.flags.bits]

/-- The payload of a PRINTER_STATE report (R155, R190). A cut feed remaining of none is sent as the count 0 and not as FF hex, which
is the count 255 as well (DESIGN CHOICE, log 50). -/
def PrinterStateReport.payload (r : PrinterStateReport) : List Byte :=
  [byteOf r.engine.code, optByte (r.cause.map StopCause.code), optByte (r.resume.map PrintState.code),
    byteOf (paperCode r.paper), byteOf (nearEndCode r.nearEnd), byteOf (coverCode r.cover), byteOf (cutterCode r.cutter)]
    ++ Config.temperatureField r.temp
    ++ [optByte (r.turn.map Prod.fst)] ++ field16 ((r.turn.map Prod.snd).getD 0) ++ [byteOf r.records0, byteOf r.records1]
    ++ listBytes (fun o => field16 o.1 ++ [byteOf o.2]) r.overlays ++ [byteOf r.feed] ++ field16 r.cutSale

/-- The node, the report kind and the payload of a report (12.4, 13.2). -/
def Report.frame : Report → BitVec 3 × Byte × List Byte
  | .weight r => (1, 0x81, r.payload)
  | .live r => (1, 0x82, r.payload)
  | .scaleState r => (1, 0x83, r.payload)
  | .scan r => (2, 0x81, r.payload)
  | .card r => (3, 0x81, r.payload)
  | .sale r => (4, 0x81, r.payload)
  | .drawer r => (5, 0x81, r.payload)
  | .drawerState r => (5, 0x82, r.payload)
  | .printer r => (6, 0x81, r.payload)
  | .printerState r => (6, 0x82, r.payload)

/-! ## Table entries (13.5) -/

/-- The bits of a list of glyph rows, left column first. -/
def rowBits (rows : List GlyphRow) : List Bool := rows.flatMap fun r => (List.range 12).map fun k => r.getMsbD k

/-- The byte of eight bits, the first most significant. -/
def bitsByte (bits : List Bool) : Byte := byteOf (bits.foldl (fun n b => 2 * n + b.toNat) 0)

/-- The characters of a list of rows, packed without gaps. -/
def rowBytes (rows : List GlyphRow) : List Byte :=
  (List.range 36).map fun i => bitsByte (((rowBits rows).drop (8 * i)).take 8)

/-- Six digits of a prefix. -/
def prefixBytes (n : Nat) : List Byte := [100000, 10000, 1000, 100, 10, 1].map fun p => digitChar (n / p % 10)

/-- A mask rule as its code: 0 CLEAR, 1 otherwise. -/
def ruleByte (isClear : Bool) : Byte := if isClear then 0 else 1

/-- The characters of a table entry, in the layout that Load Entries takes (13.5). -/
def AnyEntry.bytes : AnyEntry → List Byte
  | .item e =>
    [byteOf e.lead.length] ++ e.lead ++ List.replicate (12 - e.lead.length) 0
      ++ [byteOf e.codeLength, byteOf e.itemClass.code, byteOf e.tareClass, byteOf e.fieldStart, byteOf e.fieldLength,
          byteOf e.fieldKind.code]
  | .tare grams => signed32 grams
  | .card e => prefixBytes e.low ++ prefixBytes e.high ++ [byteOf e.cardClass.code, byteOf e.profile]
  | .mask e =>
    [byteOf e.keepFirst, byteOf e.keepLast, ruleByte e.expiryClear, ruleByte e.serviceClear, ruleByte e.discretionaryClear,
     ruleByte e.numberClear]
  | .glyph rows => rowBytes rows
  | .strobe micros => field16 micros
  | .reaction e => [byteOf e.source.code, byteOf e.action.codes.1, byteOf e.action.codes.2]

/-! ## Results of responses -/

/-- A flag set of hold reasons. -/
def holdByte (reasons : List Bool) : Byte := byteOf (flagSet reasons)

/-- An active grant: kind, amount, start and planned end. -/
def Grant.bytes (g : Grant) : List Byte :=
  [byteOf g.kind.code] ++ field16 g.amount ++ field32 (g.start / 1000) ++ field32 ((g.start + g.duration) / 1000)

/-- A waiting request: kind, amount and duration; a duration beyond two bytes stands as FFFF hex (log 19). -/
def Request.bytes (r : Request) : List Byte := [byteOf r.kind.code] ++ field16 r.amount ++ field16 (min r.duration 65535)

/-- The results of Get Status (R187), with the rate and the slots in one byte each (DESIGN CHOICE, log 19). -/
def StatusReport.bytes (r : StatusReport) : List Byte :=
  be32 r.laneTime ++ [byteOf r.rate, byteOf r.responses, byteOf r.reports, byteOf r.slots]
    ++ r.tables.flatMap (fun t => [byteOf t.state.code, byteOf t.cursor, byteOf t.loaded])
    ++ [holdByte [r.scanHost, r.scanReaction, r.scanQueue], holdByte [r.swipeHost, r.swipeReaction], flagByte r.low]
    ++ field16 r.volts ++ field16 r.budget ++ opt16 r.pendingBudget ++ listBytes Grant.bytes r.grants
    ++ listBytes Request.bytes r.requests ++ [byteOf r.lampA.code, byteOf r.lampB.code] ++ field32 r.beepMs

/-- The results of Identify (R187, 13.2), the revision number in one byte (DESIGN CHOICE, log 19). -/
def Identity.bytes (r : Identity) : List Byte :=
  [0x1D, 0x40] ++ field16 740 ++ [byteOf Config.revision] ++ [1, 2, 3, 4, 5, 6, 7].map (fun t => byteOf (tableCapacity t))
    ++ field32 r.counter ++ [flagByte r.restart] ++ field32 r.max ++ field32 r.d1 ++ field32 r.d2 ++ field32 r.range1

/-- A tender with its position. -/
def tenderBytes (position : Nat) (t : Tender) : List Byte :=
  [byteOf position, byteOf t.kind.code] ++ field32 t.amount ++ field32 t.change ++ [optByte t.ref, byteOf t.permit.code]

/-- Tenders with their positions, counted on. -/
def tendersBytes : Nat → List Tender → List Byte
  | _, [] => []
  | n, t :: rest => tenderBytes n t ++ tendersBytes (n + 1) rest

/-- A token (R55; log 21). -/
def Token.bytes (t : Token) : List Byte :=
  field16 t.number ++ field16 t.sale ++ optString t.itemCode ++ [byteOf t.tareClass] ++ signed32 t.figures.t
    ++ signed32 t.figures.g ++ signed32 t.figures.n ++ signed32 t.figures.d ++ be32 t.time ++ [byteOf t.state.code]

/-- A card reference with its index (R102). -/
def referenceBytes (index : Nat) (r : CardReference) : List Byte :=
  [byteOf index] ++ field16 r.swipe ++ [byteOf r.cardClass.code, byteOf r.profile] ++ stringBytes (maskedBytes r.digits)
    ++ optMasked r.expiry

/-- Card references with their indices, counted on. -/
def referencesBytes : Nat → List CardReference → List Byte
  | _, [] => []
  | n, r :: rest => referenceBytes n r ++ referencesBytes (n + 1) rest

/-- The loyalty reference, or absent values in its place (R103). -/
def loyaltyBytes : Option LoyaltyReference → List Byte
  | some r => field16 r.swipe ++ [byteOf r.profile] ++ stringBytes (maskedBytes r.digits)
  | none => [0, 0, 0xFF, 0xFF]

/-- The results of a response after its status byte (R190). -/
def Result.bytes : Result → List Byte
  | .empty => []
  | .small n => [byteOf n]
  | .identity i => i.bytes
  | .status r => r.bytes
  | .parameter v => field32 v
  | .loaded cursor n => [byteOf cursor, byteOf n]
  | .entry state e =>
    [byteOf state.code] ++ (match e with
      | some x => 1 :: x.bytes
      | none => [0])
  | .counters values => values.flatMap field32
  | .token n => field16 n
  | .opened number slot => field16 number ++ [byteOf slot]
  | .tender position granted => [byteOf position, byteOf granted]
  | .balance b due => signed32 b ++ field32 due
  | .freeSlot => [byteOf SaleState.free.code]
  | .summary state number first x => [byteOf state.code] ++ field16 number ++ [orderByte first] ++ x.bytes
  | .tenders l => byteOf l.length :: tendersBytes 1 l
  | .tokens l => listBytes Token.bytes l
  | .references l loyalty => byteOf l.length :: (referencesBytes 1 l ++ loyaltyBytes loyalty)

/-! ## Frames (13.2) -/

/-- The characters of a frame, each with its mark bit: the header of a class and a node, then the length, the tag, the code, the payload
and the CRC. -/
def frameCharacters (cls : BitVec 2) (node : BitVec 3) (tag code : Byte) (payload : List Byte) : List (Bool × Byte) :=
  let body := byteOf payload.length :: tag :: code :: payload
  (true, cls ++ (0#3 ++ node)) :: (body ++ be16 (crc16 body)).map fun b => (false, b)

/-- The characters of the frame in transmission; of a frame cut by a LANE reset no character begins any more (R189). -/
def TxFrame.characters : TxFrame → List (Bool × Byte)
  | .response r => frameCharacters 1 r.node r.tag r.code (byteOf r.status.code :: r.result.bytes)
  | .report r => frameCharacters 2 r.frame.1 0 r.frame.2.1 r.frame.2.2
  | .remnant => []

end Sys2Proof.Machine
end

