-- ==== Sys2Proof/Tests/Slice0.lean ====
section
/-! SUPPORT. Tests of the model: commands that are not well-formed, worked cases of the spec, and for each statement of
Certificates/Slice0/Obligations.lean states and operands that meet what it asks. -/

namespace Sys2Proof.Tests

open Sys2Proof.Machine

-- One test at a time: each is a short evaluation in the kernel, and many at once take many threads.
set_option Elab.async false

/-! ## States to test on -/

/-- The part after reset once its three reports have been sent. -/
def quiet : State := { State.reset with port := { State.reset.port with tx := none, reports := [] } }

/-- The state that a command leaves. -/
def after (i : Instr) (s : State) : State :=
  match exec i s with
  | .next t => t
  | _ => s

/-- Whether an outcome is a given next state. -/
def reaches (o : Host.Outcome State Fault Refusal) (t : State) : Bool :=
  match o with
  | .next u => u == t
  | _ => false

/-- The last response that a command leaves, with its status and its result. -/
def answer (i : Instr) (s : State) : Option (Status × Result) := (after i s).port.answers.getLast?.map fun r => (r.status, r.result)

/-- A record of one range: 15 kg by 5 g, 150 mg a count from 1,000. -/
def cal1 : CalRecord := ⟨15000, 5, 0, 0, 1000, [(100000, 15000000)], 1, false⟩

/-- A record of two ranges: 5 g up to 6 kg, 10 g up to 15 kg. -/
def cal2 : CalRecord := ⟨15000, 5, 10, 6000, 1000, [(100000, 15000000)], 7, false⟩

/-- The part with a calibration in its store, measuring 1,500 g. -/
def measuring : State :=
  { quiet with
    store := { quiet.store with block := some cal1.image, copy := some cal1 }
    scale := { quiet.scale with
      engine := .measuring, cal := some cal1, filter := List.replicate 15 11000, stability := List.replicate 23 1500000
      newest := some 11000, load := .motion, shown := some 1500 } }

/-- The same part at rest: STABLE at 1,500 g and armed. -/
def stable : State :=
  { measuring with scale := { measuring.scale with
      filter := List.replicate 16 11000, stability := List.replicate 24 1500000, load := .stable, armed := true } }

/-- The part with nothing on the scale: ZERO. -/
def empty : State :=
  { measuring with scale := { measuring.scale with
      filter := List.replicate 16 1000, stability := List.replicate 24 0, newest := some 1000, load := .zero, shown := some 0
      armed := true } }

/-- The part at a trigger instant whose sample has not come. -/
def atTrigger (s : State) : State := { s with clock := { s.clock with laneTime := 8000, micro := 0, sampled := false } }

/-- A sale in a state. -/
def saleIn (n : Nat) (st : SaleState) : Sale := ⟨n, st, true, 0, [], [], [], none, false, 0, false⟩

/-- A state with a sale in slot 0. -/
def withSale (x : Sale) (s : State) : State := { s with sales := { s.sales with slot0 := some x, nextSale := 2 } }

/-- A weigh request of sale 1. -/
def request (n : Nat) (tare : Nat) (head : Option LaneTime) : WeighRequest := ⟨n, 0, 1, .host, none, tare, head⟩

/-- A state with requests waiting. -/
def withQueue (q : List WeighRequest) (s : State) : State := { s with scale := { s.scale with queue := q } }

/-- A token of sale 1 of 1,500 g. -/
def token (n : Nat) (st : TokenState) : Token := ⟨n, 1, none, 0, ⟨1500, 5, 0, 1500⟩, 0, st⟩

/-- A state at a lane time. -/
def atTime (ms : LaneTime) (s : State) : State := { s with clock := { s.clock with laneTime := ms } }

/-- A list of PRINTER reports. -/
def printerReports (n : Nat) : List PrinterReport := List.replicate n (.cut 1 false 0 0)

/-! ## Commands that are not well-formed, one for each test -/

theorem test_unknown_command_that_names_one : (Instr.unknownCommand 0 0 1 []).wellFormed = false := by decide
theorem test_unknown_command_too_long : (Instr.unknownCommand 0 2 1 (List.replicate 241 0)).wellFormed = false := by decide +kernel
theorem test_load_too_long : (Instr.loadEntries 0 1 0 1 (List.replicate 238 0)).wellFormed = false := by decide +kernel
theorem test_lines_too_long : (Instr.appendLines 0 1 (List.replicate 239 0)).wellFormed = false := by decide +kernel
theorem test_tokens_without_start : (Instr.getSale 0 0 2 none).wellFormed = false := by decide
theorem test_start_without_tokens : (Instr.getSale 0 0 1 (some 1)).wellFormed = false := by decide
theorem test_open_drawer_of_sale_zero : (Instr.openDrawer 0 0).wellFormed = false := by decide
theorem test_well_formed : (Instr.getSale 0 0 2 (some 1)).wellFormed = true ∧ (Instr.openDrawer 0 1).wellFormed = true := by decide

/-! ## Frames and characters -/

/-- The check value of the CRC (R178). -/
theorem test_crc : crc16 [0x31, 0x32, 0x33, 0x34, 0x35, 0x36, 0x37, 0x38, 0x39] = 0x29B1 := by decide +kernel

/-- Frames written out from 13.2 and R190. -/
theorem test_frames :
    decodeFrame ⟨0, 0x01, 7, []⟩ = .command (.identify 7)
    ∧ decodeFrame ⟨0, 0x03, 7, [0x09, 0x00, 0x00, 0x0F, 0xA0]⟩ = .command (.setParameter 7 9 4000)
    ∧ decodeFrame ⟨1, 0x02, 7, [0x03, 0x01, 0x02]⟩ = .command (.requestWeight 7 3 0x0102)
    ∧ decodeFrame ⟨4, 0x05, 7, [0x00, 0x01, 0x00, 0x00, 0x00, 0x03, 0xE8, 0x00, 0x00, 0x00, 0x00, 0xFF]⟩
        = .command (.addTender 7 1 0 1000 0 0xFF)
    ∧ decodeFrame ⟨5, 0x01, 7, [0x00, 0x00]⟩ = .command (.openDrawerNoSale 7)
    ∧ decodeFrame ⟨6, 0x02, 7, [0x00, 0x01]⟩ = .command (.closeReceipt 7 1)
    ∧ decodeFrame ⟨2, 0x01, 7, []⟩ = .unknown ∧ decodeFrame ⟨0, 0x12, 7, []⟩ = .unknown
    ∧ decodeFrame ⟨0, 0x01, 7, [0x00]⟩ = .badLength := by decide +kernel

/-- The characters of Identify, with the CRC over length, code and tag, leave what the command leaves. -/
theorem test_receive : reaches (receive (wire ⟨0, 0x01, 7, []⟩) quiet) (after (.identify 7) quiet) = true := by decide +kernel

/-! ## Steps, supply and the link -/

theorem witness_IdleTimeAndSupply :
    (quiet.pending = [] ∧ quiet.powered = true ∧ quiet.clock.micro < 1000 ∧ (∀ t ∈ timers, t.1 quiet = false))
    ∧ (State.reset.clock.instant = 0 ∧ ∃ s : State, s.powered = false) :=
  ⟨by decide +kernel, by decide, ⟨{ quiet with powered := false }, rfl⟩⟩

/-- A tick at the end of the circle of lane time (00_scope.md). -/
theorem test_tick_wraps :
    reaches (step { quiet with clock := ⟨0xFFFFFFFF, 999, 5, true⟩ })
      { quiet with clock := ⟨0, 0, 6, false⟩ } = true := by decide +kernel

theorem witness_FramesSpellCommands :
    (Instr.getSale 9 1 2 (some 64)).wellFormed = true ∧ (Instr.getSale 9 1 2 (some 64)).isHostCommand = true
    ∧ decodeFrame (encodeFrame (.getSale 9 1 2 (some 64))) = .command (.getSale 9 1 2 (some 64))
    ∧ decodeFrame ⟨7, 1, 0, []⟩ = .unknown := by decide +kernel

theorem witness_CharactersOfAFramePerformItsCommand :
    (Instr.openSale 3).wellFormed = true ∧ (Instr.openSale 3).isHostCommand = true ∧ quiet.powered = true ∧ Settled quiet.port
    ∧ reaches (receive (wire (encodeFrame (.openSale 3))) quiet) (after (.openSale 3) quiet) = true := by decide +kernel

/-- A response, for filling queues. -/
def anAnswer : Response := responseTo (.identify 0) .ok .empty .nothing

theorem witness_FramesThatAreNotPerformedAreAnsweredOrCounted :
    (∃ s : State, s.powered = true ∧ s.port.waiting.length < 2 ∧ s.port.pause = false ∧ 4 ≤ s.port.responses.length)
    ∧ (∃ s : State, s.powered = true ∧ s.port.waiting.length < 2 ∧ s.port.pause = true)
    ∧ (∃ s : State, s.powered = true ∧ 2 ≤ s.port.waiting.length)
    ∧ (Ready quiet ∧ namesCommand 1 10 = false)
    ∧ decodeFrame ⟨1, 1, 0, [0]⟩ = .badLength ∧ Settled quiet.port :=
  ⟨⟨{ quiet with port := { quiet.port with responses := List.replicate 4 anAnswer } }, by decide⟩,
   ⟨{ quiet with port := { quiet.port with pause := true } }, by decide⟩,
   ⟨{ quiet with port := { quiet.port with waiting := [⟨0, 1, 0, []⟩, ⟨0, 1, 0, []⟩] } }, by decide⟩,
   by decide, by decide, by decide⟩

/-- A part that is taking a frame for node 1. -/
def assembling (chars : List Byte) : State := { quiet with port := { quiet.port with assembly := some ⟨1, chars⟩ } }

theorem witness_EachCharacterHasItsCase :
    (after (.linkCharacterReceived false 0 true) (assembling [])).port.counters.line = 1
    ∧ (after (.linkCharacterReceived false 0 true) quiet).port.counters.stray = 1
    ∧ (after (.linkCharacterReceived true 63 false) quiet).port.assembly = some ⟨7, []⟩
    ∧ (after (.linkCharacterReceived true 64 false) (assembling [])).port.assembly = none
    ∧ (after (.linkCharacterReceived true 64 false) (assembling [])).port.counters.truncated = 1
    ∧ (after (.linkCharacterReceived false 241 false) (assembling [])).port.counters.length = 1
    ∧ (after (.linkCharacterReceived false 240 false) (assembling [])).port.assembly = some ⟨1, [240]⟩
    ∧ (after (.linkCharacterReceived false 5 false) (assembling [0, 1, 2])).port.assembly = some ⟨1, [0, 1, 2, 5]⟩
    ∧ (after (.linkCharacterReceived false 5 false) (assembling [0, 1, 2, 3])).port.counters.crc = 1 := by decide +kernel

/-- A part that sends a response after which something follows, with the rate 2 to come. -/
def sending (a : AfterSend) : State :=
  { quiet with port := { quiet.port with
      tx := some (.response (responseTo (.identify 0) .ok .empty a)), pendingRate := some 2, pause := true } }

theorem witness_TransmissionsEndInTheirOrder :
    ((sending .nothing).powered = true ∧ (sending .nothing).port.responses = [] ∧ (sending .nothing).port.reports = [])
    ∧ ((sending .rateChange).port.pendingRate = some 2 ∧ (sending .rateChange).port.waiting = [])
    ∧ (after (.frameTransmitEnd levelsAtReset) (sending .rateChange)).port.rate = 2
    ∧ (after (.frameTransmitEnd levelsAtReset) State.reset).port.reports.length = 1 := by decide +kernel

/-- The end of a report frees the place that a waiting DRAWER report takes (R182), and a frame that waits at a rate change is performed. -/
theorem witness_TransmissionsEndAndAdmit :
    ((after (.frameTransmitEnd levelsAtReset) { quiet with
        port := { quiet.port with tx := some .remnant, reports := List.replicate 24 (.live ⟨.zero, none⟩) }
        drawer := { quiet.drawer with reports := [⟨.opened, 0, 1, none, none, false, false⟩] } }).port.reports.length = 24)
    ∧ ((after (.frameTransmitEnd levelsAtReset) { sending .rateChange with port := { (sending .rateChange).port with
        waiting := [encodeFrame (.setParameter 7 4 100)] } }).mgmt.params.drawerPulseMs = 100) := by decide +kernel

/-- A part that is sending, with reports waiting at three sources. -/
def crowded : State :=
  { (sending .nothing) with
    printer := { quiet.printer with reports := printerReports 1, line := some ⟨0, false, 0, 7200, 28, some 700, 2000, 0, none, true⟩ }
    port := { (sending .nothing).port with
      scaleSlot := some ⟨.measuring, .zero, none, 0, false, false, 0, .clear⟩, mark := 6 } }

theorem witness_TheRotationAdmitsOneReport :
    crowded.powered = true ∧ crowded.port.tx.isSome = true ∧ crowded.port.reports.length < 24
    ∧ (after .reportAdmission crowded).port.mark = 8 ∧ (after .reportAdmission crowded).port.scaleSlot = none
    ∧ (after .reportAdmission (after .reportAdmission crowded)).port.mark = 6
    ∧ nothingWaits quiet = true ∧ printerFree crowded = false := by decide +kernel

/-! ## The Management node and the indicators -/

/-- A part in transmission with a queue of reports. -/
def queued (reports : List Report) : State := { quiet with port := { quiet.port with tx := some .remnant, reports := reports } }

/-- An EVENT report joins the end of the queue while a place is free and nothing waits, and stands in its source's list otherwise (R182). -/
theorem test_eventsJoinTheEnd :
    ((after (.openSale 1) (queued [.live ⟨.zero, none⟩])).port.reports.map Report.stateKind = [some .live, none]
      ∧ (after (.openSale 1) (queued [.live ⟨.zero, none⟩])).sales.reports = [])
    ∧ ((after (.openSale 1) (queued (List.replicate 24 (.live ⟨.zero, none⟩)))).port.reports = List.replicate 24 (.live ⟨.zero, none⟩)
      ∧ (after (.openSale 1) (queued (List.replicate 24 (.live ⟨.zero, none⟩)))).sales.reports.length = 1)
    ∧ (after (.openSale 1) { queued [] with drawer := { quiet.drawer with reports := [⟨.opened, 0, 1, none, none, false, false⟩] }
        }).sales.reports.length = 1 := by decide +kernel

/-- A PRINTER_STATE report by the rows of R183's table: in its position, in its slot, at the end, and into its slot. -/
theorem test_statesArePlaced :
    ((after (.printerSwitchChange (.nearEnd .nearEnd)) (queued [.printerState (printerStateOf quiet), .live ⟨.zero, none⟩])).port.reports.map
        Report.stateKind = [some .printerState, some .live])
    ∧ ((after (.printerSwitchChange (.nearEnd .nearEnd)) { queued [] with port := { (queued []).port with
        printerSlot := some (printerStateOf quiet) } }).port.printerSlot.map PrinterStateReport.nearEnd = some .nearEnd)
    ∧ ((after (.printerSwitchChange (.nearEnd .nearEnd)) (queued [.live ⟨.zero, none⟩])).port.reports.map Report.stateKind
        = [some .live, some .printerState])
    ∧ ((after (.printerSwitchChange (.nearEnd .nearEnd)) (queued (List.replicate 24 (.live ⟨.zero, none⟩)))).port.printerSlot.isSome
        = true) := by decide +kernel

/-- The other rows of O8 that form one STATE report, in transmission and with the queues in order. -/
theorem witness_StatesArePlaced :
    (LinkInv (queued [.live ⟨.zero, none⟩]))
    ∧ (after .converterFaultExit { queued [] with scale := { quiet.scale with engine := .faultConverter, inRangeRun := 16 } }).scale.engine
        = .warming
    ∧ (after .grant { queued [] with
        drawer := { quiet.drawer with state := .waitGrant }
        supply := { quiet.supply with solRequest := some ⟨.solenoid, 1200, 80000⟩ } }).drawer.state = .pulsing
    ∧ (after .liveReport { queued [] with
        clock := ⟨8, 0, 0, true⟩, scale := { quiet.scale with liveWaits := false }
        mgmt := { quiet.mgmt with params := { quiet.mgmt.params with liveWeight := 1 } } }).scale.liveMemory.isSome = true := by
  refine ⟨?_, by decide +kernel⟩
  refine ⟨by decide, by decide, fun k => ?_, by decide, by decide, by decide, by decide⟩
  cases k <;> decide

theorem witness_QueriesOnlyRead :
    Ready quiet ∧ quiet.store.copy = none ∧ Ready measuring ∧ measuring.store.copy = some cal1
    ∧ answer (.identify 0) measuring = some (.ok, .identity ⟨1, false, 15000, 5, 0, 0⟩)
    ∧ answer (.getParameter 0 13) quiet = some (.ok, .parameter 9600)
    ∧ answer (.getParameter 0 14) quiet = some (.unknown, .empty)
    ∧ answer (.readEntry 0 2 0) quiet = some (.badArg, .empty)
    ∧ answer (.readEntry 0 7 15) quiet = some (.ok, .entry .empty none)
    ∧ answer (.readCounters 0 0) quiet = some (.ok, .counters [1, 0, 0, 0, 0, 0, 0, 0]) := by decide +kernel

theorem witness_ClearsEmptyWhatTheyName :
    Ready quiet ∧ (after (.clearCounters 0 2) (assembling [])).port.counters = .zero
    ∧ answer (.clearCounters 0 3) quiet = some (.badArg, .empty)
    ∧ answer (.clearTable 0 2) (withQueue [request 1 3 none] quiet) = some (.busy, .empty)
    ∧ answer (.clearTable 0 5) (withSale { saleIn 1 .settled with tokens := [token 1 .queued] } quiet) = some (.busy, .empty)
    ∧ answer (.clearTable 0 7) quiet = some (.ok, .empty) ∧ answer (.clearTable 0 8) quiet = some (.badArg, .empty)
    ∧ answer (.clearTable 0 0) quiet = some (.badArg, .empty) := by decide +kernel

theorem witness_SetParameterStoresWithinTheRange :
    Ready quiet ∧ answer (.setParameter 0 4 29) quiet = some (.okClamped, .parameter 30)
    ∧ answer (.setParameter 0 4 250) quiet = some (.ok, .parameter 250)
    ∧ answer (.setParameter 0 6 0) quiet = some (.ok, .parameter 0)
    ∧ answer (.setParameter 0 6 4) quiet = some (.okClamped, .parameter 5)
    ∧ answer (.setParameter 0 13 24000) quiet = some (.okClamped, .parameter 38400)
    ∧ answer (.setParameter 0 13 23999) quiet = some (.okClamped, .parameter 9600)
    ∧ answer (.setParameter 0 0 1) quiet = some (.unknown, .empty)
    ∧ (after (.setParameter 0 9 5000) quiet).supply.budget = 4000
    ∧ (after (.setParameter 0 1 1) (atTime 1000 (withQueue [request 1 0 (some 0)] measuring))).scale.queue = []
    ∧ (after (.setParameter 0 1 2) (atTime 1000 (withQueue [request 1 0 (some 0)] measuring))).scale.queue ≠ [] := by
  decide +kernel

/-- Two entries of the Tare Table as Load Entries carries them, of 5 g and of 12 g. -/
def tares : List Byte := [0, 0, 0, 5, 0, 0, 0, 12]

theorem witness_LoadEntriesWritesEveryEntryOrNone :
    Ready quiet ∧ answer (.loadEntries 0 2 1 2 tares) quiet = some (.ok, .loaded 3 2)
    ∧ answer (.loadEntries 0 2 255 2 tares) quiet = some (.ok, .loaded 3 2)
    ∧ answer (.loadEntries 0 2 15 2 tares) quiet = some (.badArg, .small 2)
    ∧ answer (.loadEntries 0 2 16 1 (tares.take 4)) quiet = some (.badArg, .small 1)
    ∧ answer (.loadEntries 0 2 0 1 (tares.take 4)) quiet = some (.badArg, .small 1)
    ∧ answer (.loadEntries 0 2 1 0 []) quiet = some (.badArg, .empty)
    ∧ answer (.loadEntries 0 2 1 2 (tares.take 7)) quiet = some (.badArg, .small 2)
    ∧ answer (.loadEntries 0 2 1 2 (tares ++ tares)) quiet = some (.badArg, .small 3)
    ∧ answer (.loadEntries 0 6 0 2 [1, 0x2C, 0, 99]) quiet = some (.badArg, .small 2)
    ∧ answer (.loadEntries 0 8 0 1 []) quiet = some (.badArg, .empty)
    ∧ entryAt (after (.loadEntries 0 2 15 1 (tares.take 4)) quiet).mgmt 2 15 = some (.tare 5)
    ∧ answer (.loadEntries 0 2 2 2 tares) (after (.loadEntries 0 2 1 2 tares) quiet) = some (.ok, .loaded 4 3) := by decide +kernel

theorem witness_TableInv : TableInv quiet ∧ TableInv (after (.loadEntries 0 2 1 2 tares) quiet) := by decide +kernel

/-- Entries written out from 13.5 with their fields at the ends of their ranges (R66, R97, R99, R141, R167, R170, R58). -/
theorem test_entries :
    readAny 1 ([1, 0x32] ++ List.replicate 11 0xFF ++ [13, 2, 15, 12, 6, 1])
        = some (.item ⟨[0x32], 13, .embedded, 15, 12, 6, .weightG⟩)
    ∧ readAny 1 ([1, 0x32] ++ List.replicate 11 0xFF ++ [13, 2, 15, 12, 7, 1]) = none
    ∧ readAny 2 [0xFF, 0xFF, 0xFF, 0xFE] = some (.tare (-2))
    ∧ readAny 3 ([0x30, 0x30, 0x30, 0x30, 0x31, 0x32] ++ List.replicate 6 0x39 ++ [3, 3]) = some (.card ⟨12, 999999, .staff, 3⟩)
    ∧ readAny 3 ([0x30, 0x30, 0x30, 0x30, 0x31, 0x2A] ++ List.replicate 6 0x39 ++ [3, 3]) = none
    ∧ readAny 4 [8, 4, 0, 1, 0, 1] = some (.mask ⟨8, 4, true, false, true, false⟩) ∧ readAny 4 [8, 5, 0, 1, 0, 1] = none
    ∧ ((readAny 5 ([0x80, 0x18, 0x01] ++ List.replicate 33 0)).map fun e => e == .glyph ([0x801, 0x801] ++ List.replicate 22 0)) = some true
    ∧ readAny 6 [7, 208] = some (.strobe 2000) ∧ readAny 6 [7, 209] = none ∧ readAny 6 [0, 99] = none
    ∧ readAny 7 [17, 2, 20] = some (.reaction ⟨.supplyOk, .beep 20⟩) ∧ readAny 7 [17, 2, 21] = none ∧ readAny 7 [18, 0, 0] = none
    ∧ readAny 7 [0, 3, 1] = none := by decide +kernel

/-- The part with those tares loaded; it has no calibration, or the one of a range of 5 g. -/
def loaded (s : State) : State := after (.loadEntries 0 2 1 2 tares) s

theorem witness_CloseTableTestsTheTableAndMakesItReady :
    Ready (loaded quiet) ∧ answer (.closeTable 0 2 1) (loaded quiet) = some (.mismatch, .small 2)
    ∧ answer (.closeTable 0 2 2) (loaded quiet) = some (.badArg, .small 0)
    ∧ answer (.closeTable 0 2 2) (loaded measuring) = some (.badArg, .small 2)
    ∧ answer (.closeTable 0 6 0) quiet = some (.badArg, .small 0)
    ∧ answer (.closeTable 0 4 2) (after (.loadEntries 0 4 1 2 [8, 2, 0, 0, 0, 0, 8, 3, 0, 0, 0, 0]) quiet) = some (.badArg, .small 2)
    ∧ answer (.closeTable 0 7 2) (after (.loadEntries 0 7 4 2 [0, 2, 1, 0, 2, 5]) quiet) = some (.badArg, .small 5)
    ∧ answer (.closeTable 0 3 0) quiet = some (.ok, .empty)
    ∧ answer (.closeTable 0 3 0) (after (.closeTable 0 3 0) quiet) = some (.state, .empty)
    ∧ answer (.closeTable 0 0 0) quiet = some (.badArg, .empty) := by decide +kernel

theorem witness_HoldAndReleaseScannerActOnHostAlone :
    Ready quiet ∧ (after (.holdScanner 0) quiet).scan.clearToSend = false
    ∧ (after (.releaseScanner 0) { quiet with scan := { quiet.scan with holdHost := true, holdQueue := true } }).scan.clearToSend = false
    ∧ (after (.releaseScanner 0) { quiet with scan := { quiet.scan with holdHost := true } }).scan.clearToSend = true := by
  decide +kernel

theorem witness_HoldAndReleaseSwipeActOnHostAlone :
    Ready quiet ∧ Ready (after .swipeEnd quiet)
    ∧ (after (.holdSwipe 0) { quiet with swipe := { quiet.swipe with capture := .capturing } }).mgmt.counters.swipesLost = 1
    ∧ (after (.releaseSwipe 0) (after (.holdSwipe 0) quiet)).swipe.capture = .waiting := by decide +kernel

theorem witness_IndicatorsAreSetAndRun :
    Ready quiet ∧ answer (.setIndicator 0 2 21) quiet = some (.badArg, .empty)
    ∧ answer (.setIndicator 0 3 0) quiet = some (.badArg, .empty)
    ∧ (after (.setIndicator 0 1 2) quiet).mgmt.lampB = ⟨.blink, true, 0⟩
    ∧ (after (.setIndicator 0 2 20) quiet).mgmt.beeper = some 1000
    ∧ (after .beepEnd (atTime 999 (after (.setIndicator 0 2 20) quiet))).mgmt.beeper = some 1000
    ∧ (after .beepEnd (atTime 1000 (after (.setIndicator 0 2 20) quiet))).mgmt.beeper = none
    ∧ (after .blinkPhase (atTime 499 (after (.setIndicator 0 1 2) quiet))).mgmt.lampB = ⟨.blink, true, 0⟩
    ∧ (after .blinkPhase (atTime 500 (after (.setIndicator 0 1 2) quiet))).mgmt.lampB = ⟨.blink, false, 500⟩ := by decide +kernel

/-- The part with a Reaction Table of two entries on PAPER_OUT. -/
def reacting : State :=
  { quiet with mgmt := { quiet.mgmt with reactions :=
      ⟨.ready, [(0, ⟨.paperOut, .lampA .blink⟩), (1, ⟨.lowSupply, .beep 2⟩), (2, ⟨.paperOut, .holdSwipe⟩)], 3⟩ } }

theorem witness_EventsPerformTheirReactionsInOrder :
    reacting.mgmt.reactions.state = .ready ∧ quiet.mgmt.reactions.state ≠ .ready
    ∧ (raiseEvent .paperOut reacting).mgmt.lampA = ⟨.blink, true, 0⟩ ∧ (raiseEvent .paperOut reacting).swipe.capture = .held
    ∧ (raiseEvent .paperOut reacting).mgmt.beeper = none
    ∧ (∀ p ∈ reacting.mgmt.reactions.entries, p.2.source ≠ .scaleZero) := by decide +kernel

theorem witness_SetLinkRateAndResetWaitForTheirResponse :
    Ready quiet ∧ answer (.setLinkRate 0 6) quiet = some (.badArg, .empty)
    ∧ (after (.setLinkRate 0 5) quiet).port.pendingRate = some 5 ∧ (after (.setLinkRate 0 5) quiet).port.rate = 1
    ∧ answer (.reset 0 2) quiet = some (.badArg, .empty) ∧ (after (.reset 0 1) quiet).port.pause = true := by decide +kernel

/-! ## Weighing -/

/-- Rounding at the half and the two ranges (R10, R11): 2.5 g rounds to 5 g, and 6,005 g stands above range1_max. -/
theorem test_indicated :
    cal1.capacityOk = true ∧ cal2.capacityOk = true ∧ cal1.indicated 2499 = 0 ∧ cal1.indicated 2500 = 5 ∧ cal1.indicated (-2500) = -5
    ∧ cal2.indicated 6000000 = 6000 ∧ cal2.indicated 6005000 = 6010 ∧ cal2.dTop = 10 := by decide +kernel

/-- The curve of the record: 1,500 g at 11,000 counts, and on below zero by the first segment (R7). -/
theorem witness_TheWeightFollowsTheCurveAndItsInterval :
    cal1.capacityOk = true ∧ cal1.points ≠ [] ∧ cal1.countsRise = true ∧ cal1.massesRise = true
    ∧ cal1.mCal 11000 = 1500000 ∧ cal1.mCal 990 = -1500 ∧ cal1.mCal 201000 = 30000000 := by decide +kernel

theorem witness_SamplesAreDisposedOfAndFiltered :
    (atTrigger measuring).clock.triggerDue = true ∧ quiet.clock.triggerDue = false
    ∧ (after (.sampleTrigger 0x7FFFFF) (atTrigger quiet)).scale.railRun = 1
    ∧ (after (.sampleTrigger 100) (atTrigger quiet)).scale.filter = [100]
    ∧ (after (.sampleTrigger 100) (atTrigger { quiet with scale := { quiet.scale with shockEnd := some 7999 } })).scale.noisyRun = 1
    ∧ (after (.sampleTrigger 100) (atTrigger { quiet with scale := { quiet.scale with
        engine := .faultConverter, inRangeRun := 14 } })).scale.inRangeRun = 15
    ∧ (after (.sampleTrigger 11000) (atTrigger measuring)).scale.stability.length = 24
    ∧ (after (.sampleTrigger 11000) (atTrigger measuring)).scale.load = .stable
    ∧ (after (.sampleTrigger 11000) (atTrigger { measuring with mgmt := { measuring.mgmt with params :=
        { measuring.mgmt.params with zeroTrack := 0 } } })).scale.newest = some 11000 := by decide +kernel

/-- A load of ZERO arms the scale and shows it in SCALE_STATE (R21, R24). -/
theorem test_armingIsShown :
    (after (.sampleTrigger 1000) (atTrigger { empty with scale := { empty.scale with armed := false } })).port.tx.map (fun x => match x with
      | .report (.scaleState r) => some (r.armed, r.load, r.g)
      | _ => none) = some (some (true, .zero, some 0)) := by decide +kernel

/-- The part that tests its initial zero (R18). -/
def zeroing (e : Engine) (count : Int) : State :=
  atTrigger { measuring with scale := { measuring.scale with
      engine := e, filter := List.replicate 15 count, stability := List.replicate 23 (cal1.mCal count) } }

/-- The initial zero at 1,500 g, the bound, and at 1,650 g (R18). -/
theorem witness_TheInitialZero :
    (after (.sampleTrigger 11000) (zeroing .initialZero 11000)).scale.engine = .measuring
    ∧ (after (.sampleTrigger 11000) (zeroing .zeroError 11000)).scale.zMg = 1500000
    ∧ (after (.sampleTrigger 11000) (zeroing .initialZero 11000)).scale.load = .zero
    ∧ (after (.sampleTrigger 12000) (zeroing .initialZero 12000)).scale.engine = .zeroError
    ∧ (after (.sampleTrigger 12000) (zeroing .zeroError 12000)).scale.engine = .zeroError
    ∧ (after (.sampleTrigger 12000) (zeroing .initialZero 11000)).scale.engine = .initialZero := by decide +kernel

/-- The run of zero tracking starts at a sample that is ZERO, goes on at the next, and stops at a load (R20). -/
theorem witness_TheTrackingRun :
    (after (.sampleTrigger 1000) (atTrigger empty)).scale.zeroRun = some 8000
    ∧ (after (.sampleTrigger 1000) (atTrigger { empty with scale := { empty.scale with zeroRun := some 7001 } })).scale.zeroRun
        = some 7001
    ∧ (after (.sampleTrigger 9000) (atTrigger { empty with scale := { empty.scale with zeroRun := some 7001 } })).scale.zeroRun
        = none := by decide +kernel

/-- 1,200 g in the upper range of a 60 kg scale whose lower range ends at 1 kg, with a spread of 4.5 g. -/
def upper (e : Engine) : State :=
  { measuring with scale := { measuring.scale with
      engine := e, cal := some ⟨60000, 1, 10, 1000, 1000, [(400000, 60000000)], 7, false⟩, filter := List.replicate 15 9000
      stability := List.replicate 12 1195500 ++ List.replicate 11 1200000, newest := some 9000 } }

/-- A zero taken there publishes ZERO in the same moment (R60). -/
theorem test_zeroPublishesZero :
    (after (.sampleTrigger 9000) (atTrigger (upper .initialZero))).scale.load = .zero
    ∧ (after (.setZero 0) { upper .measuring with scale := { (upper .measuring).scale with load := .stable } }).scale.load
        = .zero := by decide +kernel

/-- Three rail samples in a row while a request waits (R22, R51). -/
def railed : State :=
  withQueue [request 1 0 (some 0)] { measuring with scale := { measuring.scale with railRun := 3 } }

theorem witness_ConverterFaultAndWarmingBeginAndEnd :
    railed.powered = true ∧ (after .converterFaultEntry railed).scale.engine = .faultConverter
    ∧ (after .converterFaultEntry railed).scale.resume = some .measuring
    ∧ (after .converterFaultEntry railed).weightTrail.map WeightReport.outcome = [.fault]
    ∧ (after .converterFaultEntry { railed with scale := { railed.scale with engine := .warming, queue := [] } }).scale.resume
        = some .initialZero
    ∧ (after .converterFaultExit { quiet with scale := { quiet.scale with engine := .faultConverter, inRangeRun := 16 } }).scale.engine
        = .warming
    ∧ (after .warmingEnd { stable with scale := { stable.scale with engine := .warming, stability := [] } }).scale.newest
        = some 11000
    ∧ (after .warmingEnd { stable with scale := { stable.scale with engine := .warming, stability := [], resume := some .measuring
        } }).scale.engine = .measuring := by decide +kernel

/-- LIVE is on and no report has gone out. -/
def live : State := { stable with
  scale := { stable.scale with liveWaits := false }, mgmt := { stable.mgmt with params := { stable.mgmt.params with liveWeight := 1 } } }

/-- The fresh LIVE after power-on or a LANE reset comes with the next trigger, and the row alone does not bring it (R25). -/
theorem witness_TheFreshLiveWaitsForATrigger :
    (after .liveReport { live with scale := { live.scale with liveWaits := true } }).scale.liveMemory = none
    ∧ State.reset.scale.liveWaits = true ∧ (after (.linkBreak levelsAtReset) live).scale.liveWaits = true
    ∧ (after (.sampleTrigger 11000) (atTrigger { live with scale := { live.scale with liveWaits := true } })).scale.liveMemory
        = some ⟨.stable, some 1500, 8000⟩
    ∧ (after (.sampleTrigger 11000) (atTrigger stable)).scale.liveMemory = none := by decide +kernel

theorem witness_StarvationShockAndLiveReports :
    (after .starvation { stable with scale := { stable.scale with noisyRun := 12 } }).scale.load = .motion
    ∧ (after .starvation { stable with scale := { stable.scale with noisyRun := 11 } }).scale.load = .stable
    ∧ (after .liveReport live).scale.liveMemory = some ⟨.stable, some 1500, 0⟩
    ∧ (after .liveReport stable).scale.liveMemory = none
    ∧ (after .liveReport (atTime 256 { live with scale := { live.scale with liveMemory := some ⟨.zero, some 0, 6⟩ } })).scale.liveMemory
        = some ⟨.stable, some 1500, 256⟩
    ∧ (after .shockHoldEnd (atTime 300 { stable with scale := { stable.scale with shockEnd := some 300 } })).scale.shockEnd = none
    ∧ (after .shockHoldEnd (atTime 299 { stable with scale := { stable.scale with shockEnd := some 300 } })).scale.shockEnd
        = some 300 := by decide +kernel

/-- The empty scale off by 600 mg, its tracking run begun at 0; and with the offset near 2% of Max. -/
def drifting (z : Int) : State :=
  { empty with scale := { empty.scale with newest := some 1004, stability := List.replicate 24 600, zMg := z, zeroRun := some 0 } }

theorem witness_ZeroIsSetAndTracked :
    (after .zeroTracking (atTime 1000 (drifting 0))).scale.zMg = 600
    ∧ (after .zeroTracking (atTime 1000 (drifting 0))).scale.zeroRun = some 1000
    ∧ (after .zeroTracking (atTime 999 (drifting 0))).scale.zMg = 0
    ∧ (after .zeroTracking (atTime 1000 (drifting 600))).scale.zeroRun = some 1000
    ∧ (after .zeroTracking (atTime 1000 { drifting 299700 with scale := { (drifting 299700).scale with
        newest := some 3002 } })).scale.trackLimit = true
    ∧ answer (.setZero 0) measuring = some (.state, .empty)
    ∧ answer (.setZero 0) (withQueue [request 1 0 none] stable) = some (.pendingWeigh, .empty)
    ∧ answer (.setZero 0) stable = some (.outOfRange, .empty)
    ∧ answer (.setZero 0) { empty with scale := { empty.scale with newest := some 3000 } } = some (.ok, .empty)
    ∧ answer (.setZero 0) { empty with scale := { empty.scale with newest := some 3001 } } = some (.outOfRange, .empty) := by
  decide +kernel

/-- The part measuring with sale 1 open. -/
def selling : State := withSale (saleIn 1 .opened) stable

/-- Sale 1 with tokens 65,534 and 65,535, and the counter at 65,534: the next free number is 1 (R43). -/
theorem witness_FirstUnused :
    offeredToken { selling with sales := { (withSale { saleIn 1 .opened with tokens := [token 65534 .captured, token 65535 .captured] }
      stable).sales with nextToken := 65534 } } = 1 := by decide +kernel

theorem witness_WeighRequestsQueueAndEnd :
    Ready selling ∧ answer (.requestWeight 0 16 1) selling = some (.badArg, .empty)
    ∧ answer (.requestWeight 0 0 2) selling = some (.noSale, .empty)
    ∧ answer (.requestWeight 0 0 1) (withSale (saleIn 1 .settled) stable) = some (.state, .empty)
    ∧ answer (.requestWeight 0 0 1) (withQueue (List.replicate 4 (request 9 0 none)) selling) = some (.noRoom, .empty)
    ∧ answer (.requestWeight 0 0 1) (withQueue [request 1 0 (some 0)] selling) = some (.ok, .token 2)
    ∧ (after (.requestWeight 0 0 1) selling).scale.queue = [request 1 0 (some 0)]
    ∧ (after (.requestWeight 0 0 1) selling).supply.quiet = true
    ∧ (after (.requestWeight 0 3 1) selling).weightTrail.map WeightReport.outcome = [.tareUnavailable]
    ∧ answer (.cancelWeighRequest 0 7) selling = some (.badToken, .empty)
    ∧ answer (.cancelWeighRequest 0 7) (withSale { saleIn 1 .opened with tokens := [token 7 .voided] } stable) = some (.already, .empty)
    ∧ (after (.cancelWeighRequest 0 1) (atTime 50 (withQueue [request 1 0 (some 0), request 2 0 none] selling))).scale.queue
        = [request 2 0 (some 50)]
    ∧ (after (.cancelWeighRequest 0 2) (withQueue [request 1 0 (some 0), request 2 0 none] selling)).scale.queue = [request 1 0 (some 0)]
    ∧ (after .weighTimeout (atTime 20000 (withQueue [request 1 0 (some 0), request 2 0 none] selling))).scale.queue
        = [request 2 0 (some 20000)]
    ∧ (after .weighTimeout (atTime 19999 (withQueue [request 1 0 (some 0)] selling))).scale.queue.length = 1 := by decide +kernel

/-- The head is ready to be captured, with a tare of 1,500 g in class 3. -/
def capturing (tare : Nat) : State :=
  withQueue [request 1 tare (some 0)] { selling with mgmt := { selling.mgmt with tares := ⟨.ready, [(3, 1500)], 4⟩ } }

theorem witness_TheHeadIsCapturedAtItsEvaluation :
    (capturing 0).scale.cal = some cal1 ∧ (capturing 0).scale.newest = some 11000
    ∧ (capturing 0).scale.queue = [request 1 0 (some 0)]
    ∧ (testCapture (capturing 0)).sales.slot0.map Sale.tokens = some [token 1 .captured]
    ∧ (testCapture (capturing 0)).scale.armed = false
    ∧ (testCapture (capturing 3)).weightTrail.map WeightReport.outcome = [.netNotPositive]
    ∧ (testCapture (capturing 3)).scale.armed = true
    ∧ testCapture (withQueue [request 1 0 (some 0)] measuring) = withQueue [request 1 0 (some 0)] measuring
    ∧ ((after (.sampleTrigger 11000) (atTrigger (capturing 0))).sales.slot0.map fun x => x.tokens.map Token.number) = some [1] := by
  decide +kernel

/-- Two requests at a trigger instant at which the first one's wait expires, with a weight that could be captured. -/
def expiring : State :=
  atTrigger (withQueue [request 1 0 (some 0), request 2 0 none]
    { selling with mgmt := { selling.mgmt with params := { selling.mgmt.params with weighWaitS := 8 } } })

/-- The evaluation that falls together with the expiry passes over the head it seats (R50); once a microsecond has passed it is tested. -/
theorem test_expiryBeforeEvaluation :
    (after .weighTimeout expiring).scale.passedOver = some 2
    ∧ (after (.sampleTrigger 11000) (after .weighTimeout expiring)).scale.queue.map WeighRequest.number = [2]
    ∧ testCapture (after .weighTimeout expiring) = after .weighTimeout expiring
    ∧ (testCapture { after .weighTimeout expiring with scale := { (after .weighTimeout expiring).scale with passedOver := none } }).scale.queue
        = [] := by decide +kernel

/-! ## Calibration -/

theorem witness_TheRecordImageReadsBack :
    cal2.image.length = 48 ∧ readImage cal2.image = some cal2 ∧ readImage (List.replicate 48 0xFF) = none
    ∧ be16 (crc16 (cal2.image.reverse.take 46)) ≠ cal2.image.reverse.drop 46 := by decide +kernel

/-- The part with its seal switch closed and a full calibration window. -/
def unsealed : State :=
  { stable with
    store := { stable.store with sealSwitch := .closed }, inputs := { stable.inputs with sealSwitch := .closed }
    scale := { stable.scale with calWindow := List.replicate 24 11000 } }

/-- The same part in an edit session. -/
def editing : State := { unsealed with scale := { unsealed.scale with session := true, engine := .calEdit, cal := some cal2 } }

/-- The same part with a commit in flight. -/
def committing (writing : Bool) (afterFull : Bool) : State :=
  { editing with store := { editing.store with block := none, inFlight := some ⟨writing, 0, cal2, afterFull⟩ } }

theorem witness_TheSealSwitchAndDiscardEndAnEdit :
    (after (.sealSwitchChange .opened) editing).scale.engine = .measuring
    ∧ (after (.sealSwitchChange .opened) editing).scale.cal = some cal1
    ∧ (after (.sealSwitchChange .closed) editing) = editing
    ∧ (after (.sealSwitchChange .opened) (committing false false)).scale.session = true
    ∧ Ready editing ∧ answer (.discardCalibration 0) stable = some (.sealedOff, .empty)
    ∧ answer (.discardCalibration 0) (committing false false) = some (.busy, .empty)
    ∧ answer (.discardCalibration 0) unsealed = some (.state, .empty)
    ∧ (after (.discardCalibration 0) editing).scale.flags.calDiscarded = true
    ∧ (after (.discardCalibration 0) { editing with store := { editing.store with copy := none } }).scale.engine
        = .faultNotCalibrated := by decide +kernel

theorem witness_EditsByValueChangeTheCopy :
    Ready unsealed ∧ EditRefused stable .sealedOff ∧ EditRefused (committing true false) .busy
    ∧ answer (.setCapacity 0 15000 5 10 6000) unsealed = some (.ok, .empty)
    ∧ (after (.setCapacity 0 15000 5 10 6000) unsealed).scale.cal = some { cal1 with d2 := 10, range1 := 6000 }
    ∧ (after (.setCapacity 0 15000 5 10 6000) unsealed).scale.engine = .calEdit
    ∧ answer (.setCapacity 0 999 5 0 0) unsealed = some (.badArg, .empty)
    ∧ answer (.setCapacity 0 60000 3 0 0) unsealed = some (.badArg, .empty)
    ∧ answer (.setCalPoint 0 3 1 1) unsealed = some (.badArg, .empty)
    ∧ (after (.setCalPoint 0 2 200000 30000000) unsealed).scale.cal.map CalRecord.points
        = some [(100000, 15000000), (200000, 30000000)]
    ∧ (after (.setCalPoint 0 1 0 0) unsealed).scale.cal.map CalRecord.points = some []
    ∧ answer (.setCalPoint 0 1 33554432 1) unsealed = some (.badArg, .empty) := by
  refine ⟨by decide, .inl (by decide), .inr (.inl (by decide)), ?_⟩
  decide +kernel

theorem witness_CapturesTakeTheStableCount :
    unsealed.scale.calWindow.length = 24 ∧ (∀ x ∈ unsealed.scale.calWindow, ∀ y ∈ unsealed.scale.calWindow, x - y ≤ 20)
    ∧ (after (.captureCalZero 0) unsealed).scale.cal.map CalRecord.cZero = some 11000
    ∧ (after (.captureCalPoint 0 1 1500000) unsealed).scale.cal.map CalRecord.points = some [(10000, 1500000)]
    ∧ answer (.captureCalPoint 0 1 0) unsealed = some (.badArg, .empty)
    ∧ answer (.captureCalPoint 0 3 1) unsealed = some (.badArg, .empty)
    ∧ answer (.captureCalZero 0) { unsealed with scale := { unsealed.scale with calWindow := [] } } = some (.state, .empty)
    ∧ answer (.captureCalPoint 0 1 5) { unsealed with scale := { unsealed.scale with newest := some 1000 } }
        = some (.outOfRange, .empty) := by decide +kernel

theorem witness_CommitErasesAndThenWrites :
    Ready editing ∧ answer (.commitCalibration 0) unsealed = some (.state, .empty)
    ∧ answer (.commitCalibration 0) editing = some (.ok, .empty)
    ∧ (after (.commitCalibration 0) editing).store.inFlight = some ⟨false, 0, { cal2 with counter := 2 }, false⟩
    ∧ (after (.commitCalibration 0) { editing with store := { editing.store with copy := none } }).store.inFlight
        = some ⟨false, 0, { cal2 with counter := 1, restart := true }, false⟩
    ∧ answer (.commitCalibration 0) { editing with scale := { editing.scale with cal := some { cal2 with points := [] } } }
        = some (.badArg, .small 2)
    ∧ answer (.commitCalibration 0) { editing with scale := { editing.scale with cal := some { cal2 with range1 := 6001 } } }
        = some (.badArg, .small 1)
    ∧ ((after .calEraseEnd { committing false false with clock := ⟨0, 0, 15000, true⟩ }).store.inFlight.map StoreOp.writing)
        = some true
    ∧ ((after .calEraseEnd { committing false false with clock := ⟨0, 0, 14999, true⟩ }).store.inFlight.map StoreOp.writing)
        = some false := by decide +kernel

/-- A commit whose write has taken its 5 ms, with a tared request at the head and another behind it. -/
def written (afterFull : Bool) : State :=
  withQueue [request 1 3 (some 0), request 2 0 none] { committing true afterFull with
    clock := ⟨0, 0, 5000, true⟩, mgmt := { quiet.mgmt with tares := ⟨.ready, [(3, 500)], 4⟩ } }

theorem witness_CommitCompleteStoresTheImage :
    (written false).powered = true ∧ (after .commitComplete (written false)).store.block = some cal2.image
    ∧ (after .commitComplete (written false)).scale.engine = .initialZero
    ∧ (after .commitComplete (written false)).scale.queue = [request 2 0 (some 0)]
    ∧ (after .commitComplete (written false)).weightTrail.map WeightReport.outcome = [.tareUnavailable]
    ∧ (after .commitComplete (written true)).scale.engine = .calEdit
    ∧ (after .commitComplete { written false with clock := ⟨0, 0, 4999, true⟩ }).store.inFlight.isSome = true := by decide +kernel

/-! ## Scans -/

/-- The characters of digits. -/
def chars (digits : List Nat) : List Byte := digits.map digitChar

/-- The codes of the table of 4.2 (R65). -/
theorem test_check_digits :
    checkDigitOk (chars [9, 6, 3, 8, 5, 0, 7, 4]) = true ∧ checkDigitOk (chars [2, 1, 1, 2, 3, 4, 5, 0, 1, 2, 5, 0, 6]) = true
    ∧ checkDigitOk (chars [2, 1, 1, 2, 3, 4, 5, 0, 1, 2, 5, 0, 7]) = false := by decide +kernel

/-- A WEIGHED class of tare class 0 for codes that begin with 4, a longer BLOCKED one, and an EMBEDDED weight for codes of 13. -/
def classes : List (Nat × ItemEntry) :=
  [(0, ⟨chars [4], 0, .weighed, 0, 0, 0, .price⟩), (1, ⟨chars [4, 5], 0, .blocked, 0, 0, 0, .price⟩),
   (2, ⟨chars [2, 1], 13, .embedded, 0, 9, 4, .weightG⟩), (3, ⟨chars [9], 0, .ordinary, 0, 0, 0, .price⟩)]

/-- A part with those classes and a code that waits. -/
def scanned (s : State) (code : List Byte) : State :=
  { s with mgmt := { s.mgmt with items := ⟨.ready, classes, 4⟩ }, scan := { s.scan with finished := some code } }

theorem witness_CheckDigitsAndTheWinningEntry :
    isRetail (chars [9, 6, 3, 8, 5, 0, 7, 4]) = true
    ∧ lookupItem (chars [4, 5, 0, 0, 0, 0, 0, 0]) classes none = some (1, ⟨chars [4, 5], 0, .blocked, 0, 0, 0, .price⟩)
    ∧ lookupItem (chars [7]) classes none = none := by decide +kernel

theorem witness_ScannerCharactersFormFrames :
    (after (.scannerCharacter 0x41 false) quiet).scan.chars = [0x41]
    ∧ (after (.scannerCharacter 0x7F false) quiet).scan.fault = some .badChar
    ∧ (after (.scannerCharacter 0x0D true) quiet).scan.fault = some .line
    ∧ (after (.scannerCharacter 0x0D false) quiet) = quiet
    ∧ (after (.scannerCharacter 0x41 false) { quiet with scan := { quiet.scan with chars := List.replicate 32 0x41, count := 32 } }).scan.fault
        = some .long
    ∧ (after (.scannerCharacter 0x0D false) { quiet with scan := { quiet.scan with count := 3, fault := some .badChar } }).mgmt.counters.discardChar
        = 1
    ∧ (after (.scannerCharacter 0x0D false) { quiet with scan := { quiet.scan with chars := [0x41], count := 1 } }).scanTrail.map
        ScanReport.itemClass = [some .other] := by decide +kernel

theorem witness_ScanProcessingReportsEveryFrame :
    (after .scanProcessing (scanned quiet (chars [2, 1, 1, 2, 3, 4, 5, 0, 1, 2, 5, 0, 6]))).scanTrail.map ScanReport.embedded
        = [some (.weightG, 1250)]
    ∧ (after .scanProcessing (scanned quiet (chars [2, 1, 1, 2, 3, 4, 5, 0, 1, 2, 5, 0, 7]))).mgmt.counters.rejectedScans = 1
    ∧ (after .scanProcessing (scanned quiet (chars [4, 0, 0, 0, 0, 0, 0, 8]))).scanTrail.map (fun r => r.flags.noSale) = [true]
    ∧ (after .scanProcessing (scanned selling (chars [4, 0, 0, 0, 0, 0, 0, 8]))).scale.queue.length = 1
    ∧ (after .scanProcessing (scanned selling (chars [4, 0, 0, 0, 0, 0, 0, 8]))).scanTrail.map ScanReport.token = [some 1]
    ∧ (after .scanProcessing (scanned quiet (chars [4, 5, 0, 0, 0, 0, 0, 3]))).scanTrail.map ScanReport.disposition = [.blocked] := by
  decide +kernel

/-- A weighed code, and a part with a tare class of its entry. -/
def weighed (tare : Nat) (s : State) : State :=
  { s with
    mgmt := { s.mgmt with items := ⟨.ready, [(0, ⟨chars [4], 0, .weighed, tare, 0, 0, .price⟩)], 1⟩ }
    scan := { s.scan with finished := some (chars [4, 0, 0, 0, 0, 0, 0, 8]) } }

/-- A weighed code joins the tail, or becomes the head, or ends at once without its tare or in a fault (R44, R48, R71). -/
theorem witness_AWeighedCodeRequestsItsWeight :
    (after .scanProcessing (weighed 5 (withQueue [request 9 0 (some 0)] selling))).scale.queue.length = 2
    ∧ (after .scanProcessing (weighed 3 { selling with mgmt := { selling.mgmt with tares := ⟨.ready, [(3, 1500)], 4⟩ } })).scale.queue.map
        WeighRequest.tareClass = [3]
    ∧ (after .scanProcessing (weighed 5 selling)).weightTrail.map WeightReport.outcome = [.tareUnavailable]
    ∧ (after .scanProcessing (weighed 0 { selling with scale := { selling.scale with engine := .faultConverter } })).weightTrail.map
        WeightReport.outcome = [.fault] := by decide +kernel

/-! ## Cards -/

/-- A swipe decoder in a capture state, 20 ms after its last edge. -/
def swiping (c : Capture) (intervals : List Nat) : State :=
  { quiet with
    clock := { quiet.clock with swipeClock := 20000 }
    swipe := { quiet.swipe with capture := c, intervals := intervals, lastReversal := 0, counter := 65535 } }

theorem witness_EdgesMakeSwipes :
    (after .swipeEdge (swiping .capturing [7])).swipe.intervals = [7, 20000]
    ∧ (after .swipeEdge (swiping .armed [7])).swipe.capture = .capturing
    ∧ (after .swipeArm { quiet with clock := { quiet.clock with swipeClock := 50000 } }).swipe.capture = .armed
    ∧ (after .swipeArm { quiet with clock := { quiet.clock with swipeClock := 49999 } }).swipe.capture = .waiting
    ∧ (after .swipeEnd (swiping .capturing [])).cardTrail.map CardReport.outcome = [.tooShort]
    ∧ (after .swipeEnd (swiping .capturing [])).swipe.counter = 0
    ∧ (after .swipeEnd { swiping .capturing [] with clock := { quiet.clock with swipeClock := 19999 } }).swipe.capture = .capturing := by
  decide +kernel

/-- The intervals of 5.2, worked to T = 402 (R84, R85): five bits from intervals 13 to 20. -/
theorem test_cells :
    (cellTime [1, 1, 1, 1, 400, 402, 398, 401, 399, 400, 403, 401] = 401)
    ∧ (cellBits 13 401 [198, 205, 210, 196, 405]).toOption = some [true, true, false] := by decide +kernel

/-- The short track of 5.5 (R90): NUMBER = 42, forward and backward. -/
theorem test_short_track :
    decodeIntervals false (drawn 200 (trackBits [4, 2])) = ⟨.ok, none, some 400, some .forward, ⟨some [4, 2], none, none, none, none⟩⟩
    ∧ decodeIntervals false (drawn 200 (trackBits [4, 2]).reverse)
        = ⟨.ok, none, some 400, some .reverse, ⟨some [4, 2], none, none, none, none⟩⟩
    ∧ trackLrc [4, 2] = 2 := by decide +kernel

/-- An account of 6.1 with an expiry, a service code and one digit more. -/
def account : List Nat := [4, 0, 0, 0, 0, 0, 1, 2, 3, 4, 5, 6, 7, 8, 9, 9]

theorem witness_ASteadyDrawReadsBack :
    (account ++ 13 :: [2, 9, 1, 2, 1, 0, 1, 5]).length ≤ 38 ∧ trackLrc (account ++ 13 :: [2, 9, 1, 2, 1, 0, 1, 5]) ≠ 10
    ∧ decodeIntervals false (drawn 20 (List.replicate 3 false ++ trackBits (account ++ 13 :: [2, 9, 1, 2, 1, 0, 1, 5]) ++ [false]))
        = ⟨.ok, none, some 40, some .forward, ⟨none, some account, some [2, 9, 1, 2], some [1, 0, 1], some [5]⟩⟩
    ∧ decodeIntervals false (drawn 1000 (trackBits [5])) = ⟨.ok, none, some 2000, some .forward, ⟨some [5], none, none, none, none⟩⟩
    ∧ decodeIntervals false (drawn 500 (trackBits (account ++ [13])))
        = ⟨.ok, none, some 1000, some .forward, ⟨none, some account, none, none, some []⟩⟩ := by decide +kernel

/-- The accounts of 6.1 (R96). -/
theorem test_account_check :
    accountOk account = true ∧ accountOk [4, 0, 0, 0, 0, 0, 1, 2, 3, 4, 5, 6, 7, 8, 9, 0] = false
    ∧ accountOk [4, 5, 0, 0, 0, 0, 0, 0, 0, 0, 0, 0, 0, 0, 0, 7] = true := by decide +kernel

/-- A sound record of an account. -/
def card (a : List Nat) : CardRecord := ⟨5, 0, .ok, none, 300, some 400, some .forward, ⟨none, some a, none, none, some []⟩⟩

/-- The part with a record waiting, a PAYMENT range around its key and a profile that keeps 6 and 4. -/
def carded (s : State) (c : CardRecord) : State :=
  { s with
    swipe := { s.swipe with decodeBuffer := some c }
    mgmt := { s.mgmt with
      cards := ⟨.ready, [(0, ⟨500000, 599999, .gift, 0⟩), (1, ⟨400000, 400000, .payment, 2⟩)], 2⟩
      masks := ⟨.ready, [(2, ⟨6, 4, false, false, false, false⟩)], 3⟩ } }

/-- A sound record with every field of an account track. -/
def full : CardRecord := { card account with fields := ⟨none, some account, some [2, 9, 1, 2], some [1, 0, 1], some [5]⟩ }

theorem witness_TheAccountCheckAndTheCardClass :
    (carded quiet (card account)).swipe.decodeBuffer = some (card account) ∧ (card account).outcome = .ok
    ∧ (carded quiet (card account)).swipe.reportBuffer = none
    ∧ (after .cardProcessing (carded quiet (card account))).cardTrail.map CardReport.check = [some true]
    ∧ (after .cardProcessing (carded quiet (card account))).cardTrail.map CardReport.cardClass = [.payment]
    ∧ (after .cardProcessing (carded quiet (card [4, 0, 0, 0, 0, 0, 1, 2, 3, 4, 5, 6, 7, 8, 9, 0]))).cardTrail.map CardReport.check
        = [some false]
    ∧ (after .cardProcessing (carded quiet { card account with fields := ⟨some [4, 2], none, none, none, none⟩ })).cardTrail.map
        CardReport.cardClass = [.unknown] := by decide +kernel

/-- Another account with the same key, ends and check, as the profile keeps 6 and 4. -/
def account' : List Nat := [4, 0, 0, 0, 0, 0, 3, 2, 1, 4, 5, 6, 7, 8, 9, 9]

theorem witness_MaskingKeepsOnlyTheEndsAndLeavesNoTrace :
    (∀ p ∈ (carded quiet (card account)).mgmt.masks.entries, p.2.keepFirst + p.2.keepLast ≤ 10)
    ∧ account ≠ account' ∧ account.length = account'.length ∧ account.take 6 = account'.take 6
    ∧ account.drop 12 = account'.drop 12 ∧ accountOk account = accountOk account'
    ∧ maskDigits 6 4 account = [some 4, some 0, some 0, some 0, some 0, some 0, none, none, none, none, none, none, some 7, some 8, some 9, some 9]
    ∧ after .cardProcessing (carded quiet (card account)) = after .cardProcessing (carded quiet (card account')) := by decide +kernel

/-- A record with every field, and a profile that clears the expiry and drops the rest; without a profile the fixed default (R99, R100). -/
theorem witness_TheFieldsOfAnOkRecord :
    (after .cardProcessing { carded quiet full with mgmt := { (carded quiet full).mgmt with
        masks := ⟨.ready, [(2, ⟨0, 4, true, false, false, true⟩)], 3⟩ } }).cardTrail.map (fun r => (r.profile, r.fields))
      = [(some (2, false), ⟨none, some (List.replicate 12 none ++ [some 7, some 8, some 9, some 9]), some [some 2, some 9, some 1, some 2],
          none, none⟩)]
    ∧ (after .cardProcessing { carded quiet full with mgmt := { (carded quiet full).mgmt with
        masks := ⟨.loading, [(2, ⟨0, 4, true, false, false, true⟩)], 3⟩ } }).cardTrail.map (fun r => (r.profile, r.fields.expiry))
      = [(some (2, true), none)] := by decide +kernel

theorem witness_CardProcessingReportsAndAttaches :
    (after .cardProcessing (carded selling (card account))).sales.slot0.map (fun x => x.refs.length) = some 1
    ∧ (after .cardProcessing (carded selling (card account))).cardTrail.map CardReport.refIndex = [some 1]
    ∧ (after .cardProcessing (carded quiet (card account))).cardTrail.map CardReport.attachment = [.none]
    ∧ (after .cardProcessing (carded selling { card account with outcome := .lrc })).cardTrail.map CardReport.cardClass = [.unknown]
    ∧ after .cardProcessing quiet = quiet := by decide +kernel

/-! ## Sales -/

/-- The part with sale 1 in a state, with tenders. -/
def saleWith (st : SaleState) (tenders : List Tender) : State := withSale { saleIn 1 st with due := 1000, tenders := tenders } quiet

/-- A full SALE report list. -/
def fullSales (s : State) : State :=
  { s with sales := { s.sales with reports := List.replicate 6 ⟨1, 0, .opened, .free, .openSale, 0, true, (saleIn 1 .opened).summary true⟩ } }

/-- A CASH tender of 1,000 with its permit. -/
def cash (p : TenderPermit) : Tender := ⟨.cash, 1000, 0, none, p⟩

theorem witness_SalesOpenAndRelease :
    Ready quiet ∧ answer (.openSale 0) quiet = some (.ok, .opened 1 0) ∧ answer (.openSale 0) selling = some (.state, .empty)
    ∧ answer (.openSale 0) (saleWith .settled []) = some (.ok, .opened 2 1)
    ∧ answer (.openSale 0) { saleWith .settled [] with sales := { (saleWith .settled []).sales with slot1 := some (saleIn 2 .closing) } }
        = some (.noRoom, .empty)
    ∧ answer (.openSale 0) (fullSales quiet) = some (.busy, .empty)
    ∧ answer (.openSale 0) { saleWith .settled [] with sales := { (saleWith .settled []).sales with nextSale := 1 } }
        = some (.ok, .opened 2 1)
    ∧ answer (.releaseSale 0 1) (saleWith .settled []) = some (.state, .empty)
    ∧ answer (.releaseSale 0 3) (saleWith .closed []) = some (.noSale, .empty)
    ∧ (after (.releaseSale 0 1) (saleWith .closed [])).sales.slot0 = none
    ∧ answer (.releaseSale 0 1) { saleWith .closed [] with drawer := { quiet.drawer with state := .opened, permit := some (.tender 1 1) } }
        = some (.drawer, .empty)
    ∧ answer (.releaseSale 0 1) (fullSales (saleWith .closed [])) = some (.busy, .empty) := by decide +kernel

/-- Two sales, the one in slot 0 CLOSED and FIRST. -/
def twoSales (second : SaleState) : State :=
  { saleWith .closed [] with sales := { (saleWith .closed []).sales with slot1 := some { saleIn 2 second with first := false } } }

/-- The print turn stays at the SECOND sale when the FIRST is released (R107). -/
theorem test_turn_kept :
    (twoSales .closed).sales.turn? = some 1 ∧ (after (.releaseSale 0 1) (twoSales .closed)).sales.turn? = some 1
    ∧ (after (.releaseSale 0 1) (twoSales .settled)).sales.turn? = some 1
    ∧ (after (.releaseSale 0 2) (twoSales .closed)).sales.turn? = none
    ∧ (after (.openSale 0) (after (.releaseSale 0 1) (twoSales .closed))).sales.turn? = some 0 := by decide +kernel

theorem witness_SetDueAndVoidTokenEditTheirSaleAlone :
    Ready selling ∧ answer (.setDue 0 1 99999999) selling = some (.ok, .empty)
    ∧ answer (.setDue 0 1 100000000) selling = some (.badArg, .empty)
    ∧ answer (.setDue 0 1 5) (saleWith .settled []) = some (.state, .empty) ∧ answer (.setDue 0 0 5) selling = some (.noSale, .empty)
    ∧ answer (.voidToken 0 1 9) selling = some (.badToken, .empty)
    ∧ answer (.voidToken 0 1 9) (withSale { saleIn 1 .opened with tokens := [token 9 .queued] } quiet) = some (.printed, .empty)
    ∧ (after (.voidToken 0 1 9) (withSale { saleIn 1 .opened with tokens := [token 9 .captured] } quiet)).sales.slot0.map Sale.tokens
        = some [token 9 .voided] := by decide +kernel

theorem witness_TenderingBeginsResumesAndSettles :
    answer (.beginTender 0 1) selling = some (.ok, .empty)
    ∧ answer (.beginTender 0 1) (withQueue [request 1 0 (some 0)] selling) = some (.pendingWeigh, .empty)
    ∧ answer (.beginTender 0 1) (saleWith .tendering []) = some (.state, .empty)
    ∧ answer (.beginTender 0 1) (fullSales selling) = some (.busy, .empty)
    ∧ answer (.resumeSale 0 1) (saleWith .tendering []) = some (.ok, .empty)
    ∧ answer (.resumeSale 0 1) (saleWith .tendering [cash .unused]) = some (.state, .empty)
    ∧ answer (.settle 0 1) (saleWith .tendering []) = some (.balance, .balance 0 1000)
    ∧ answer (.settle 0 1) (saleWith .tendering [cash .unused]) = some (.ok, .empty)
    ∧ answer (.settle 0 1) (saleWith .opened []) = some (.state, .empty) ∧ answer (.settle 0 9) quiet = some (.noSale, .empty)
    ∧ (after (.settle 0 1) (saleWith .tendering [cash .unused])).saleTrail.map SaleReport.newState = [.settled] := by decide +kernel

theorem witness_TendersJoinAndLeaveAtTheEnd :
    answer (.addTender 0 1 0 1000 0 0xFF) (saleWith .tendering []) = some (.ok, .tender 1 1)
    ∧ answer (.addTender 0 1 2 1000 0 0xFF) (saleWith .tendering []) = some (.ok, .tender 1 0)
    ∧ answer (.addTender 0 1 1 1000 0 0xFF) (saleWith .tendering []) = some (.badArg, .empty)
    ∧ answer (.addTender 0 1 0 1000 1001 0xFF) (saleWith .tendering []) = some (.badArg, .empty)
    ∧ answer (.addTender 0 1 3 1000 0 0xFF) (saleWith .tendering []) = some (.badArg, .empty)
    ∧ answer (.addTender 0 1 0 1000 0 0xFF) (saleWith .tendering (List.replicate 8 (cash .none))) = some (.noRoom, .empty)
    ∧ answer (.withdrawTender 0 1) (saleWith .tendering [cash .unused, cash .unused]) = some (.ok, .small 1)
    ∧ answer (.withdrawTender 0 1) (saleWith .tendering [cash .used]) = some (.drawer, .empty)
    ∧ answer (.withdrawTender 0 1) (saleWith .tendering []) = some (.state, .empty) := by decide +kernel

/-- Sale 1 with a line printed, a token on its way to the paper, and a request waiting. -/
def aborting (linePrinted : Bool) : State :=
  withQueue [request 2 0 (some 0)] { withSale { saleIn 1 .opened with tokens := [token 1 .queued], linePrinted := linePrinted } stable
    with printer := { quiet.printer with lines0 := [.feed 3 1] } }

/-- The same printer with an overlay of sale 1 active, a record of the other slot, and a line in production or none. -/
def overlaid (line : Option Line) : State :=
  { aborting true with
    printer := { quiet.printer with
      lines0 := [.feed 3 1], lines1 := [.feed 2 0], overlays := [⟨1, 1500, 8, .g0, 5⟩], line := line } }

theorem witness_AbortRemovesOverlays :
    (after (.abortSale 0 1) (overlaid none)).printer.overlays = []
    ∧ (after (.abortSale 0 1) (overlaid none)).printer.lines1 = [.feed 2 0]
    ∧ (after (.abortSale 0 1) (overlaid (some ⟨0, false, 7, 7200, 40, some 700, 300, 0, none, true⟩))).printer.overlays = []
    ∧ (after (.abortSale 0 1) (overlaid (some ⟨0, false, 7, 7200, 40, some 700, 300, 0, none, true⟩))).printer.line.map Line.dots
        = some 7 := by decide +kernel

theorem witness_AbortSaleDiscardsWhatWasNotPrinted :
    answer (.abortSale 0 1) (aborting true) = some (.ok, .empty)
    ∧ (after (.abortSale 0 1) (aborting true)).sales.slot0.map Sale.state = some .aborting
    ∧ (after (.abortSale 0 1) (aborting false)).sales.slot0.map Sale.state = some .closed
    ∧ (after (.abortSale 0 1) (aborting true)).sales.slot0.map Sale.tokens = some [token 1 .voided]
    ∧ (after (.abortSale 0 1) (aborting true)).weightTrail.map WeightReport.outcome = [.cancelled]
    ∧ answer (.abortSale 0 1) (saleWith .tendering [cash .none]) = some (.state, .empty)
    ∧ answer (.abortSale 0 1) (fullSales selling) = some (.busy, .empty) := by decide +kernel

theorem witness_GetSaleReadsOnePart :
    answer (.getSale 0 2 0 none) quiet = some (.badArg, .empty) ∧ answer (.getSale 0 0 4 none) quiet = some (.badArg, .empty)
    ∧ answer (.getSale 0 0 2 (some 0)) quiet = some (.badArg, .empty) ∧ answer (.getSale 0 1 0 none) quiet = some (.ok, .freeSlot)
    ∧ answer (.getSale 0 0 1 none) (saleWith .tendering [cash .used]) = some (.ok, .tenders [cash .used])
    ∧ answer (.getSale 0 0 2 (some 64)) selling = some (.ok, .tokens [])
    ∧ answer (.getSale 0 0 2 (some 2)) (withSale { saleIn 1 .opened with tokens := List.replicate 12 (token 1 .captured) } quiet)
        = some (.ok, .tokens (List.replicate 8 (token 1 .captured))) := by decide +kernel

/-! ## The cash drawer -/

/-- The drawer in a state, for the permit of tender 1 of sale 1. -/
def drawerIn (st : DrawerState) (s : State) : State :=
  { s with drawer := { s.drawer with state := st, permit := some (.tender 1 1), attempt := some 1, pulseEnd := 80, deadline := 500 } }

theorem witness_OpeningsTakeThePermitAndAsk :
    answer (.openDrawer 0 1) (saleWith .tendering [cash .unused, cash .unused]) = some (.ok, .small 2)
    ∧ (after (.openDrawer 0 1) (saleWith .tendering [cash .unused])).drawer.state = .pulsing
    ∧ (after (.openDrawer 0 1) { saleWith .tendering [cash .unused] with supply := { quiet.supply with low := true } }).drawer.state
        = .waitGrant
    ∧ answer (.openDrawer 0 1) (saleWith .tendering [cash .used]) = some (.drawer, .empty)
    ∧ answer (.openDrawer 0 1) (saleWith .opened [cash .unused]) = some (.drawer, .empty)
    ∧ answer (.openDrawer 0 1) (drawerIn .opened (saleWith .tendering [cash .unused])) = some (.busy, .empty)
    ∧ answer (.openDrawerNoSale 0) quiet = some (.drawer, .empty)
    ∧ (after (.openDrawerNoSale 0) { quiet with mgmt := { quiet.mgmt with params := { quiet.mgmt.params with
        noSaleAllowed := 1 } } }).mgmt.counters.noSaleOpens = 1 := by decide +kernel

/-- The drawer PULSING, its grant from instant 0. -/
def pulsing : State :=
  drawerIn .pulsing { saleWith .tendering [cash .used] with supply := { quiet.supply with solGrant := some ⟨.solenoid, 1200, 0, 80000⟩ } }

theorem witness_TheOpeningRunsItsCourse :
    (after .drawerPulseEnd (atTime 80 pulsing)).drawer.state = .confirming
    ∧ (after .drawerPulseEnd (atTime 80 pulsing)).drawer.deadline = 580
    ∧ (after .drawerPulseEnd (atTime 80 pulsing)).scale.shockEnd = some 380
    ∧ (after .drawerPulseEnd (atTime 79 pulsing)).drawer.state = .pulsing
    ∧ (after .drawerPulseEnd (atTime 80 { pulsing with drawer := { pulsing.drawer with openedMark := true } })).drawer.state = .opened
    ∧ (after .confirmationDeadline (atTime 500 (drawerIn .confirming quiet))).drawer.attempt = some 2
    ∧ (after .confirmationDeadline (atTime 499 (drawerIn .confirming quiet))).drawer.state = .confirming
    ∧ (after .confirmationDeadline (atTime 500 { drawerIn .confirming (saleWith .tendering [cash .used]) with
        drawer := { (drawerIn .confirming quiet).drawer with attempt := some 2 } })).sales.slot0.map Sale.tenders
        = some [cash .unused]
    ∧ (after .drawerOverdue (atTime 30000 (drawerIn .opened quiet))).drawer.state = .overdue
    ∧ (after .drawerOverdue (atTime 29999 (drawerIn .opened quiet))).drawer.state = .opened := by decide +kernel

/-- A DRAWER report list that holds 8. -/
def fullDrawer (s : State) : State :=
  { s with drawer := { s.drawer with reports := List.replicate 8 ⟨.opened, 0, 1, none, none, false, false⟩ } }

theorem witness_TheSenseSwitchActsByTheState :
    (after (.drawerSenseChange .closed) quiet).drawer.state = .closed
    ∧ (after (.drawerSenseChange .opened) quiet).drawer.state = .forcedOpen
    ∧ (after (.drawerSenseChange .opened) (fullDrawer quiet)).drawer.deferred = true
    ∧ (after (.drawerSenseChange .opened) (drawerIn .waitGrant quiet)).drawerTrail.map (fun r => (r.kind, r.noPulse)) = [(.opened, true)]
    ∧ (after (.drawerSenseChange .opened) (drawerIn .confirming quiet)).drawer.state = .opened
    ∧ (after (.drawerSenseChange .opened) pulsing).drawer.openedMark = true
    ∧ (after (.drawerSenseChange .closed) (drawerIn .overdue { quiet with drawer := { quiet.drawer with sense := .opened } })).drawer.state
        = .closed
    ∧ (after .drawerSenseDeferred { quiet with
        drawer := { quiet.drawer with deferred := true }, inputs := { quiet.inputs with sense := .opened } }).drawer.state
        = .forcedOpen
    ∧ after .drawerSenseDeferred quiet = quiet := by decide +kernel

/-! ## Receipt printing -/

/-- Sale 1 with line records, its token 1 captured and its glyphs loaded. -/
def printing (lines : List LineRecord) (x : Sale) : State :=
  withSale x { quiet with
    printer := { quiet.printer with lines0 := lines }
    mgmt := { quiet.mgmt with glyphs := ⟨.ready, (List.range 14).map fun i => (i, List.replicate 24 0xFFF), 14⟩ } }

/-- Sale 1 with a token of 1,500 g. -/
def tokened (st : SaleState) : Sale := { saleIn 1 st with tokens := [token 1 .captured] }

/-- 1,500 g, 60,000 g and 5 g in the two formats (R143). -/
theorem test_fields :
    fieldGlyphs .kg3 1500 = [1, 10, 5, 0, 0, 11, 12, 13] ∧ fieldWidth .kg3 1500 = 96
    ∧ fieldGlyphs .g0 1500 = [1, 5, 0, 0, 11, 13] ∧ fieldGlyphs .kg3 60000 = [6, 0, 10, 0, 0, 0, 11, 12, 13]
    ∧ fieldWidth .kg3 60000 = 108 ∧ fieldGlyphs .kg3 5 = [0, 10, 0, 0, 5, 11, 12, 13] := by decide +kernel

theorem witness_AppendLinesTestsEveryRecord :
    answer (.appendLines 0 1 [1, 24]) (printing [] (tokened .opened)) = some (.ok, .small 1)
    ∧ (after (.appendLines 0 1 [1, 24]) (printing [] (tokened .opened))).printer.lines0 = [.feed 24 1]
    ∧ (after (.appendLines 0 1 [1, 24]) (printing [] (tokened .opened))).printer.engine = .printing
    ∧ answer (.appendLines 0 1 [2, 0, 1, 0, 8, 0]) (printing [] (tokened .opened)) = some (.ok, .small 1)
    ∧ answer (.appendLines 0 1 [1, 1, 2, 0, 1, 1, 32, 0]) (printing [] (tokened .opened)) = some (.ok, .small 2)
    ∧ answer (.appendLines 0 1 [1, 1, 2, 0, 1, 1, 33, 0]) (printing [] (tokened .opened)) = some (.badArg, .small 2)
    ∧ answer (.appendLines 0 1 [1, 1, 2, 0, 2, 0, 0, 0]) (printing [] (tokened .opened)) = some (.badToken, .small 2)
    ∧ answer (.appendLines 0 1 [1, 1, 1, 0]) (printing [] (tokened .opened)) = some (.badArg, .small 2)
    ∧ answer (.appendLines 0 1 [3]) (printing [] (tokened .opened)) = some (.badArg, .small 1)
    ∧ answer (.appendLines 0 1 []) (printing [] (tokened .opened)) = some (.badArg, .empty)
    ∧ answer (.appendLines 0 1 [2, 0, 1, 0, 8, 0]) (withSale (tokened .opened) quiet) = some (.notReady, .small 1)
    ∧ answer (.appendLines 0 1 [1, 1]) (printing (List.replicate 160 (.feed 1 0)) (tokened .opened)) = some (.noRoom, .empty)
    ∧ answer (.appendLines 0 1 [1, 1]) (printing [] (tokened .closing)) = some (.state, .empty)
    ∧ answer (.appendLines 0 2 [1, 1]) quiet = some (.noSale, .empty) := by decide +kernel

/-- The engine STOPPED for a cause, with a resume state. -/
def stopped (c : StopCause) (r : Option PrintState) (s : State) : State :=
  { s with printer := { s.printer with engine := .stopped, cause := some c, resume := r } }

theorem witness_ReceiptsCloseAndPrintingResumes :
    answer (.closeReceipt 0 1) (printing [] (tokened .settled)) = some (.incomplete, .small 1)
    ∧ answer (.closeReceipt 0 1) (printing [] (saleIn 1 .settled)) = some (.ok, .empty)
    ∧ (after (.closeReceipt 0 1) (printing [] (saleIn 1 .settled))).printer.engine = .cutFeed
    ∧ answer (.closeReceipt 0 1) (fullSales (printing [] (saleIn 1 .settled))) = some (.busy, .empty)
    ∧ answer (.closeReceipt 0 1) (printing [] (saleIn 1 .opened)) = some (.state, .empty)
    ∧ answer (.resumePrinting 0) quiet = some (.state, .empty)
    ∧ (after (.resumePrinting 0) (stopped .paper (some .idle) quiet)).printer.engine = .idle
    ∧ (after (.resumePrinting 0) (stopped .cutter none quiet)).supply.prnGrant = some ⟨.cutter, 600, 0, 500000⟩
    ∧ answer (.resumePrinting 0) (stopped .paper (some .idle) { quiet with printer := { quiet.printer with paper := .out } })
        = some (.state, .empty) := by decide +kernel

/-- A line of 120 dots: the columns 0 to 119. -/
def dots120 : Dots := BitVec.ofNat 384 (2 ^ 120 - 1)

theorem witness_LineBeginTakesTheNextWork :
    (after .lineBegin (printing [.raster dots120] (saleIn 1 .opened))).supply.prnGrant = some ⟨.strobe, 1280, 0, 700⟩
    ∧ (after .lineBegin (printing [.feed 2 0] (saleIn 1 .opened))).supply.prnGrant = some ⟨.motor, 400, 0, 1500⟩
    ∧ (after .lineBegin (printing [.feed 2 0] (saleIn 1 .opened))).printer.lines0 = [.feed 2 1]
    ∧ (after .lineBegin (printing [.feed 2 1] (saleIn 1 .opened))).printer.lines0 = []
    ∧ (after .lineBegin { printing [.feed 2 1] (saleIn 1 .opened) with printer := { (printing [.feed 2 1] (saleIn 1 .opened)).printer with
        paper := .out } }).printer.cause = some .paper
    ∧ (after .lineBegin { printing [.raster dots120] (saleIn 1 .opened) with printer :=
        { (printing [.raster dots120] (saleIn 1 .opened)).printer with temp := 75 } }).printer.engine = .heatHold
    ∧ (after .lineBegin { printing [.feed 2 1] (saleIn 1 .opened) with printer := { (printing [.feed 2 1] (saleIn 1 .opened)).printer with
        reports := printerReports 4 } }).printer.line = none
    ∧ (after .lineBegin (printing [] (saleIn 1 .opened))).printer.engine = .idle
    ∧ (after .lineBegin (printing [] (saleIn 1 .closing))).printer.engine = .cutFeed
    ∧ (after .lineBegin (printing [.overlay 1 0 .g0] (tokened .closing))).printer.overlays.map Overlay.remaining = [24]
    ∧ (after .lineBegin quiet) = quiet := by decide +kernel

/-- The engine in CUT_FEED for sale 1 with lines left, or in CUTTING. -/
def feeding (e : PrintState) (feed : Nat) (cover : CoverLevel) : State :=
  { printing [] (saleIn 1 .closing) with
    printer := { quiet.printer with engine := e, feed := feed, cutSale := some 1, cover := cover } }

theorem witness_CutFeedAndCutting :
    (after .lineBegin (feeding .cutFeed 2 .closed)).supply.prnGrant = some ⟨.motor, 400, 0, 1500⟩
    ∧ (after .lineBegin (feeding .cutFeed 2 .opened)).printer.resume = some .cutFeed
    ∧ (after .lineBegin (feeding .cutFeed 2 .opened)).printer.feed = 2
    ∧ (after .lineBegin (feeding .cutFeed 0 .opened)).printer.engine = .cutting
    ∧ (after .lineBegin (feeding .cutting 0 .closed)).supply.prnGrant = some ⟨.cutter, 600, 0, 500000⟩
    ∧ (after .grantEnd { after .lineBegin (feeding .cutFeed 2 .closed) with clock := ⟨1, 500, 0, true⟩ }).printer.feed = 1
    ∧ (after .grantEnd { after .lineBegin (feeding .cutFeed 1 .closed) with clock := ⟨1, 500, 0, true⟩ }).printer.engine = .cutting
    := by decide +kernel

/-- Active overlays of 1,500 g with band lines that remain. -/
def bands (remaining : List Nat) (s : State) : State :=
  { s with printer := { s.printer with overlays := remaining.map fun r => ⟨1, 1500, 0, .g0, r⟩ } }

/-- A waiting OVERLAY record, padding, and a list that ran dry (R144): the first line of a band of six glyphs has 72 dots. -/
theorem test_bands :
    (after .lineBegin (printing [.overlay 1 0 .g0, .feed 1 0] (tokened .opened))).printer.line.map (fun l => l.dots)
        = some (BitVec.ofNat 384 (0xFFFFFFFFFFFF + 0xFFF000000000000 + 0xFFF000000000000000))
    ∧ (after .lineBegin (bands [3, 4, 5, 6] (printing [.overlay 1 0 .g0] (tokened .opened)))).printer.lines0 = [.overlay 1 0 .g0]
    ∧ (after .lineBegin (bands [3, 4, 5, 6] (printing [.overlay 1 0 .g0] (tokened .opened)))).printer.line.isSome = true
    ∧ (after .lineBegin (bands [3] (printing [] (tokened .closing)))).printer.line.isSome = true
    ∧ (after .lineBegin (bands [3] (printing [] (tokened .opened)))).printer.engine = .idle := by decide +kernel

/-- The cutter in its drive for sale 1, its switch at a level. -/
def cutting (level : CutterLevel) (seen : Bool) (number : Option Nat) (s : State) : State :=
  { s with
    printer := { s.printer with engine := .cutting, cutter := level, awaySeen := seen, cutSale := number }
    supply := { s.supply with prnGrant := some ⟨.cutter, 600, 0, 500000⟩ } }

theorem witness_TheCutClosesItsSale :
    (after .cutComplete (cutting .home true (some 1) (printing [] (saleIn 1 .closing)))).sales.slot0.map Sale.state = some .closed
    ∧ (after .cutComplete (cutting .home true (some 1) (printing [] (saleIn 1 .closing)))).mgmt.counters.receiptsCut = 1
    ∧ (after .cutComplete (cutting .home false (some 1) (printing [] (saleIn 1 .closing)))).sales.slot0.map Sale.state = some .closing
    ∧ (after .cutComplete (cutting .home false none quiet)).printer.engine = .idle
    ∧ (after .cutComplete (cutting .home false none (printing [.feed 2 0] (saleIn 1 .opened)))).printer.engine = .printing
    ∧ (after .cutComplete (cutting .home false none (printing [] (saleIn 1 .closing)))).printer.cutSale = some 1
    ∧ (after (.cutterSwitchChange .away) (cutting .home false (some 1) (printing [] (saleIn 1 .closing)))).printer.awaySeen = true
    ∧ (after (.cutterSwitchChange .home) (cutting .away true (some 1) (printing [] (saleIn 1 .closing)))).sales.slot0.map Sale.state
        = some .closed
    ∧ (after (.cutterSwitchChange .home) quiet) = quiet
    ∧ (after (.cutterSwitchChange .home) (cutting .away false none quiet)).printer.engine = .idle
    ∧ (after (.cutterSwitchChange .home) (cutting .away false (some 1) (printing [] (saleIn 1 .closing)))).printer.engine = .cutting
    := by decide +kernel

theorem witness_SensorChangesStopAndRelease :
    (after (.printerSwitchChange (.paper .out)) quiet).printer.cause = some .paper
    ∧ (after (.printerSwitchChange (.cover .opened)) quiet).printer.resume = some .idle
    ∧ (after (.printerSwitchChange (.nearEnd .nearEnd)) quiet).printer.nearEnd = .nearEnd
    ∧ (after (.printerSwitchChange (.cover .closed)) quiet) = quiet
    ∧ (after (.thermistorReading 61) { quiet with printer := { quiet.printer with engine := .heatHold } }).printer.engine = .heatHold
    ∧ (after (.thermistorReading 60) { quiet with printer := { quiet.printer with engine := .heatHold, resume := some .printing } }).printer.engine
        = .idle := by decide +kernel

/-! ## Supply and head energy -/

/-- The printer waits for the motor, and a request for the solenoid waits too. -/
def waiting (low quiet' : Bool) (budget : Nat) : State :=
  { quiet with
    supply := { quiet.supply with
      low := low, quiet := quiet', budget := budget, prnRequest := some ⟨.motor, 400, 1500⟩, solRequest := some ⟨.solenoid, 1200, 80000⟩ }
    drawer := { quiet.drawer with state := .waitGrant } }

/-- A pending budget and a waiting solenoid. -/
def pending (budget : Nat) (s : State) : State :=
  { s with supply := { s.supply with pendingBudget := some budget, solRequest := some ⟨.solenoid, 1200, 80000⟩ } }

/-- A line that waits under an allowance of 300 mA, beside a solenoid that was asked for again with 700 mA (R129, R166). -/
def lineWaits : State :=
  { printing [] (saleIn 1 .opened) with
    printer := { quiet.printer with engine := .printing, line := some ⟨0, false, dots120, 7200, 40, none, 300, dots120, none, false⟩ }
    drawer := { quiet.drawer with state := .waitGrant }
    supply := { quiet.supply with solRequest := some ⟨.solenoid, 700, 80000⟩ } }

/-- A line at its step, with bands of tokens 1 and 2. -/
def stepping : State :=
  { printing [.feed 1 0] { saleIn 1 .opened with tokens := [token 1 .printing, token 2 .printing] } with
    clock := ⟨2, 0, 0, true⟩
    printer := { quiet.printer with
      engine := .printing, lines0 := [.feed 1 0], overlays := [⟨1, 1500, 0, .g0, 1⟩, ⟨2, 1500, 96, .g0, 9⟩]
      line := some ⟨0, false, 0, 7200, 40, some 700, 2000, 0, none, true⟩ }
    supply := { quiet.supply with prnGrant := some ⟨.motor, 400, 500, 1500⟩ } }

/-- The end of the step (R146): one band is PRINTED and gone, the other has a line less, and the next line is begun. -/
theorem witness_TheEndOfAStep :
    (after .grantEnd stepping).printer.overlays.map Overlay.remaining = [8]
    ∧ (after .grantEnd stepping).sales.slot0.map Sale.tokens = some [token 1 .printed, token 2 .printing]
    ∧ (after .grantEnd stepping).printer.lines0 = [] ∧ (after .grantEnd stepping).printer.line.isSome = true
    ∧ (after .grantEnd stepping).printerTrail = [.tokenPrinted 1 1 1500 .g0 2] := by decide +kernel

/-- A waiting STROBE above a reduced budget is granted by the Set Parameter that raises it (log 44). -/
theorem test_budgetAtOnce :
    (after (.setParameter 0 9 3000) { printing [] (saleIn 1 .opened) with
      printer := { quiet.printer with engine := .printing, line := some ⟨0, false, dots120, 7200, 40, some 700, 1280, 0, some dots120, false⟩ }
      mgmt := { quiet.mgmt with params := { quiet.mgmt.params with supplyBudgetMa := 1000 } }
      supply := { quiet.supply with budget := 1000, prnRequest := some ⟨.strobe, 1280, 700⟩ } }).supply.prnGrant
        = some ⟨.strobe, 1280, 0, 700⟩ := by decide +kernel

/-- A CUTTER that waits is formed anew for a budget in force at once (R157, R158), and a waiting line is packed again (R164, R166). -/
theorem witness_TheBudgetAtOnceFormsAnew :
    (after (.setParameter 0 9 1000) { quiet with
      supply := { quiet.supply with low := true, budget := 4000, prnRequest := some ⟨.cutter, 1500, 500000⟩ }
      mgmt := { quiet.mgmt with params := { quiet.mgmt.params with supplyBudgetMa := 4000, cutterCurrentMa := 1500 } } }).supply.prnRequest = some ⟨.cutter, 1000, 500000⟩
    ∧ (after (.setParameter 0 9 4000) { lineWaits with supply := { lineWaits.supply with low := true } }).printer.line.map
        (fun l => (l.allowance, dotCount l.unfired)) = some (2800, 56) := by decide +kernel

/-- The end of the pulse with a pending budget and a MOTOR that waits (R130, R157). -/
theorem test_pulseEndTakesTheBudget :
    (after .drawerPulseEnd (atTime 80 { pulsing with
      mgmt := { pulsing.mgmt with params := { pulsing.mgmt.params with motorCurrentMa := 1200 } }
      supply := { pulsing.supply with prnRequest := some ⟨.motor, 1200, 1500⟩, pendingBudget := some 1000 } })).supply.prnGrant
      = some ⟨.motor, 1000, 80000, 1500⟩ := by decide +kernel

/-- The end of a STROBE with a pending budget: the rest of the line is packed for it, in the strobe time of its first shot (R164, R168). -/
theorem test_strobeEndPacksAgain :
    (after .grantEnd { lineWaits with
      clock := ⟨1, 0, 0, true⟩, drawer := quiet.drawer
      printer := { lineWaits.printer with
        temp := 45, line := some ⟨0, false, dots120, 7200, 40, some 345, 2000, columns dots120 32 88, some (columns dots120 0 32), false⟩ }
      supply := { quiet.supply with prnGrant := some ⟨.strobe, 1280, 0, 345⟩, pendingBudget := some 4000 } }).supply.prnGrant
        = some ⟨.strobe, 3520, 1000, 345⟩ := by decide +kernel

/-- The strobe time is that of the moment in which the strobe phase begins: a line held by an oversize quarter takes the Strobe Table as it
stands when its first shot is packed (R166, R168). -/
theorem test_strobeTimeAtItsPhase :
    (after .grant { lineWaits with mgmt := { lineWaits.mgmt with strobes := ⟨.ready, [(3, 550)], 4⟩ } }).printer.line.map Line.strobe
      = some (some 550)
    ∧ (after .lineBegin (printing [.raster dots120] (saleIn 1 .opened))).printer.line.map Line.strobe = some (some 700) := by decide +kernel

theorem witness_GrantsFitTheBudgetAndTheQuiet :
    (after .grant (waiting true false 2000)) = waiting true false 2000
    ∧ (after .grant (waiting false false 2000)).supply.solGrant = some ⟨.solenoid, 1200, 0, 80000⟩
    ∧ (after .grant (waiting false false 2000)).supply.prnGrant = some ⟨.motor, 400, 0, 1500⟩
    ∧ (after .grant (waiting false false 1599)).supply.prnGrant = none
    ∧ (after .grant { waiting false true 2000 with clock := ⟨4, 500, 0, true⟩ }).supply.prnGrant = some ⟨.motor, 400, 4500, 1500⟩
    ∧ (after .grant { waiting false true 2000 with clock := ⟨4, 501, 0, true⟩ }).supply.prnGrant = none
    ∧ (after .grantEnd (atTime 500 (cutting .away true (some 1) quiet))).printer.cause = some .cutter
    ∧ (after .grantEnd (atTime 499 (cutting .away true (some 1) quiet))).printer.cause = none
    ∧ (after .grantEnd { after .lineBegin (printing [.feed 2 0] (saleIn 1 .opened)) with clock := ⟨1, 500, 0, true⟩ }).sales.slot0.map
        Sale.dotLines = some 1
    ∧ (after .grantEnd { after .lineBegin (printing [.raster dots120] (saleIn 1 .opened)) with clock := ⟨0, 700, 0, true⟩ }).supply.prnGrant
        = some ⟨.strobe, 1280, 700, 700⟩
    ∧ (after .grantEnd (pending 1100 (atTime 500 (cutting .away true (some 1) quiet)))).supply.solGrant
        = some ⟨.solenoid, 1100, 500000, 80000⟩
    ∧ (after .grantEnd (pending 1100 (atTime 500 (cutting .away true (some 1) quiet)))).supply.budget = 1100
    ∧ (after .grantEnd (atTime 80 (after .grant (waiting false false 1599)))).drawer.state = .confirming
    ∧ (after .grant lineWaits).printer.line.map (fun l => (l.allowance, dotCount l.unfired)) = some (1300, 88)
    ∧ heatedDots lineWaits = 0 ∧ heatedDots (after .grant lineWaits) = columns dots120 0 32
    ∧ (after (.supplyReading 5999) quiet).supply.low = true ∧ (after (.supplyReading 6000) quiet).supply.low = false
    ∧ (after (.supplyReading 6299) (waiting true false 2000)).supply.low = true
    ∧ (after (.supplyReading 6300) (waiting true false 2000)).supply.solGrant.isSome = true := by decide +kernel

/-- The tables of 10.4 (R163, R168). -/
theorem test_head_energy :
    dotCurrent 7200 = 40 ∧ dotCurrent 6800 = 38 ∧ dotCurrent 0 = 28 ∧ dotCurrent 9000 = 50
    ∧ strobeTime 600 6800 = 673 ∧ strobeTime 600 7200 = 600 ∧ strobeTime 700 8000 = 567 ∧ strobeTime 2000 6000 = 2000
    ∧ strobeTime 100 9000 = 100 := by decide +kernel

theorem witness_ShotsShareOutTheDots :
    shots 2000 40 dots120 = some [columns dots120 0 32, columns dots120 32 32, columns dots120 64 32, columns dots120 96 32]
    ∧ shots 600 40 dots120 = none ∧ shots 2000 40 0 = some []
    ∧ baseTime ⟨.ready, [(3, 550)], 4⟩ 25 = 550 ∧ baseTime ⟨.ready, [(3, 550)], 4⟩ 34 = 550
    ∧ baseTime ⟨.ready, [(0, 900)], 1⟩ (-5) = 900 ∧ baseTime ⟨.ready, [(7, 400)], 8⟩ 65 = 400
    ∧ baseTime (quiet.mgmt.strobes) 25 = 700 ∧ dotsCurrent 40 dots120 = 4800 := by decide +kernel

/-! ## Resets and invariants -/

theorem witness_PowerOnGivesTheResetState :
    quiet.store.block.bind readImage = none ∧ measuring.store.block.bind readImage = some cal1
    ∧ (after (.powerOn levelsAtReset 7200 25) measuring).scale.engine = .warming
    ∧ after (.powerOn levelsAtReset 7200 25) quiet = State.reset
    ∧ (after .powerLoss measuring).powered = false := by decide +kernel

theorem witness_ResetsLeaveWhatTheyKeep :
    (after (.frameTransmitEnd levelsAtReset) (sending .fullReset)).port.rate = 1
    ∧ (after (.frameTransmitEnd levelsAtReset) (sending .laneReset)).port.reports.length = 1
    ∧ (after (.linkBreak levelsAtReset) (sending .nothing)).port.tx = some .remnant
    ∧ (after (.linkBreak levelsAtReset) selling).sales.slot0 = none
    ∧ (after (.linkBreak levelsAtReset) pulsing).scale.shockEnd = some 300 := by decide +kernel

theorem witness_EveryStepKeepsTheLinkQueues :
    LinkInv State.reset := by
  refine ⟨by decide, by decide, fun k => by cases k <;> decide, ?_, ?_, ?_, ?_⟩ <;> decide

theorem witness_EveryStepAdmitsInTurn :
    AdmissionInv State.reset ∧ AdmissionInv (after (.openSale 1) (queued (List.replicate 24 (.live ⟨.zero, none⟩))))
    ∧ nothingWaits (after (.openSale 1) (queued (List.replicate 24 (.live ⟨.zero, none⟩)))) = false := by
  unfold AdmissionInv
  decide +kernel

theorem witness_EveryStepKeepsTheGrantsWithinTheBudget : SupplyInv (after .grant (waiting false false 2000)) :=
  ⟨by decide +kernel, fun h => absurd h (by decide +kernel)⟩

theorem witness_EveryStepKeepsTokensAndTheCurrentSale :
    (∀ t ∈ (printing [] (tokened .opened)).sales.tokens, t.figures.n = t.figures.g - t.figures.t ∧ 1 ≤ t.figures.n)
    ∧ ((printing [] (tokened .opened)).sales.all.filter Sale.isCurrent).length ≤ 1 := by decide +kernel

end Sys2Proof.Tests
end

section
/-! PROOF. Scanner intake: check digits and the entry that wins the lookup (R65, R68). -/

namespace Sys2Proof.Proofs.ItemLookup

open Sys2Proof.Machine

/-! ## The weighted sum (R65) -/

/-- The weight of a place counted from the digit before the check digit (R65). -/
def placeWeight (place : Nat) : Nat := if place % 2 = 0 then 3 else 1

/-- A digit behind the others takes the weight that has alternated once for each of them. -/
theorem weightedSum_concat {w : Nat} (hw : w ≤ 4) (ds : List Nat) (x : Nat) :
    weightedSum w (ds ++ [x]) = weightedSum w ds + (if ds.length % 2 = 0 then w else 4 - w) * x := by
  induction ds generalizing w with
  | nil => simp [weightedSum]
  | cons d rest ih =>
    have swap : (if rest.length % 2 = 0 then 4 - w else 4 - (4 - w))
        = if (rest.length + 1) % 2 = 0 then w else 4 - w := by split <;> split <;> omega
    rw [List.cons_append, weightedSum, weightedSum, ih (Nat.sub_le 4 w), swap, List.length_cons, Nat.add_assoc]

/-- Read from its end, a digit string is weighted by each digit's distance from the end. -/
theorem weightedSum_reverse (ds : List Nat) :
    weightedSum 3 ds.reverse
      = ((List.range ds.length).map fun k => placeWeight (ds.length - 1 - k) * ds.getD k 0).sum := by
  induction ds with
  | nil => rfl
  | cons d rest ih =>
    have shift (k : Nat) : rest.length + 1 - 1 - (k + 1) = rest.length - 1 - k := by omega
    rw [List.reverse_cons, weightedSum_concat (by decide), ih, List.length_cons, List.range_succ_eq_map, List.map_cons,
      List.sum_cons, List.map_map, List.length_reverse, Nat.add_comm]
    simp only [Function.comp_def, Nat.succ_eq_add_one, shift, List.getD_cons_succ]
    rfl

/-- The check digit of a code of at least one character, spelt by its last character and those before it (R65). -/
theorem checkDigitOk_concat (body : List Byte) (last : Byte) :
    checkDigitOk (body ++ [last]) = (digitOf last == (10 - weightedSum 3 (body.map digitOf).reverse % 10) % 10) := by
  simp [checkDigitOk]

/-- A decimal digit is the check digit of a sum exactly when it completes the sum to a multiple of ten. -/
theorem completes_ten {x sum : Nat} (hx : x ≤ 9) : x = (10 - sum % 10) % 10 ↔ (x + sum) % 10 = 0 := by omega

/-- The characters of a retail code are decimal digits (R65). -/
theorem digitOf_le_of_isRetail {code : List Byte} (h : isRetail code = true) {b : Byte} (hb : b ∈ code) : digitOf b ≤ 9 := by
  simp only [isRetail, Bool.and_eq_true, List.all_eq_true] at h
  obtain ⟨digits, -⟩ := h
  have hd := digits b hb
  simp only [isDigit, Bool.and_eq_true, decide_eq_true_eq] at hd
  obtain ⟨-, high⟩ := hd
  simp only [digitOf]
  omega

/-- A retail code is not empty (R65). -/
theorem ne_nil_of_isRetail {code : List Byte} (h : isRetail code = true) : code ≠ [] := by
  rintro rfl
  exact absurd h (by decide)

/-- The digits of the body of a code, read from the whole code. -/
theorem getD_map_digitOf (body : List Byte) (last : Byte) {k : Nat} (hk : k < body.length) :
    (body.map digitOf).getD k 0 = ((body ++ [last]).getD k 0x30).toNat - 0x30 := by
  simp [List.getD_eq_getElem?_getD, List.getElem?_append_left hk, hk, digitOf]

theorem checkDigitOk_iff {code : List Byte} (h : isRetail code = true) {d : Nat → Nat}
    (hd : ∀ k, d k = (code.getD k 0x30).toNat - 0x30) :
    checkDigitOk code = true ↔
      (d (code.length - 1) + ((List.range (code.length - 1)).map fun k =>
        (if (code.length - 2 - k) % 2 = 0 then 3 else 1) * d k).sum) % 10 = 0 := by
  obtain ⟨body, last, rfl⟩ : ∃ body last, code = body ++ [last] :=
    ⟨_, _, (List.dropLast_concat_getLast (ne_nil_of_isRetail h)).symm⟩
  have hlast : d body.length = digitOf last := by simp [hd, digitOf]
  have hsum : weightedSum 3 (body.map digitOf).reverse
      = ((List.range body.length).map fun k => (if (body.length - 1 - k) % 2 = 0 then 3 else 1) * d k).sum := by
    rw [weightedSum_reverse, List.length_map]
    congr 1
    refine List.map_congr_left fun k hk => ?_
    rw [getD_map_digitOf body last (List.mem_range.mp hk), ← hd]
    rfl
  have hten : digitOf last ≤ 9 := digitOf_le_of_isRetail h (by simp)
  rw [checkDigitOk_concat, beq_iff_eq, completes_ten hten, hsum, ← hlast]
  simp

/-! ## The lookup (R68) -/

/-- A candidate has the length of the code, or any, and its leading characters begin the code (R68). -/
theorem matches_iff (e : ItemEntry) (code : List Byte) :
    e.matches code = true ↔ (e.codeLength = 0 ∨ e.codeLength = code.length) ∧ e.lead <+: code := by
  rw [List.prefix_iff_eq_take, eq_comm (a := e.lead)]
  simp [ItemEntry.matches]

/-- An entry that does not beat another has fewer leading characters, or as many and no better length of code (R68). -/
theorem not_beats_iff (p e : ItemEntry) :
    p.beats e = false ↔
      p.lead.length < e.lead.length ∨ (p.lead.length = e.lead.length ∧ (e.codeLength ≠ 0 ∨ p.codeLength = 0)) := by
  rw [← Bool.not_eq_true, ItemEntry.beats]
  simp only [Bool.or_eq_true, Bool.and_eq_true, decide_eq_true_eq, beq_iff_eq, bne_iff_ne]
  omega

/-- No entry beats itself. -/
theorem not_beats_self (e : ItemEntry) : e.beats e = false := by
  rw [not_beats_iff]
  omega

/-- What does not beat an entry does not beat one that it does not exceed. -/
theorem not_beats_trans {p e b : ItemEntry} (hpe : p.beats e = false) (heb : e.beats b = false) : p.beats b = false := by
  rw [not_beats_iff] at *
  omega

/-- Of two entries at most one beats the other. -/
theorem not_beats_of_beats {e b : ItemEntry} (h : e.beats b = true) : b.beats e = false := by
  rw [not_beats_iff]
  rw [← Bool.not_eq_false, not_beats_iff] at h
  omega

/-- The lookup over the entries that follow replaces the best so far, or keeps it (R68). -/
theorem lookupItem_cons (code : List Byte) (p : Nat × ItemEntry) (rest : List (Nat × ItemEntry))
    (best : Option (Nat × ItemEntry)) :
    (lookupItem code (p :: rest) best = lookupItem code rest (some p)
        ∧ p.2.matches code = true ∧ ∀ b, best = some b → p.2.beats b.2 = true)
      ∨ (lookupItem code (p :: rest) best = lookupItem code rest best
        ∧ (p.2.matches code = true → ∃ b, best = some b ∧ p.2.beats b.2 = false)) := by
  obtain ⟨i, e⟩ := p
  cases hm : e.matches code with
  | false => exact .inr (by simp [lookupItem, hm])
  | true =>
    cases best with
    | none => exact .inl (by simp [lookupItem, hm])
    | some b =>
      cases hb : e.beats b.2 with
      | true => exact .inl (by simp [lookupItem, hm, hb])
      | false => exact .inr (by simp [lookupItem, hm, hb])

/-- No entry wins exactly when there is no best so far and no candidate follows. -/
theorem lookupItem_eq_none_iff (code : List Byte) (entries : List (Nat × ItemEntry)) (best : Option (Nat × ItemEntry)) :
    lookupItem code entries best = none ↔ best = none ∧ ∀ p ∈ entries, p.2.matches code = false := by
  induction entries generalizing best with
  | nil => simp [lookupItem]
  | cons p rest ih =>
    rcases lookupItem_cons code p rest best with ⟨step, hm, -⟩ | ⟨step, hk⟩
    · simp [step, ih, hm]
    · rw [step, ih, List.forall_mem_cons]
      refine and_congr_right fun none => ?_
      cases hm : p.2.matches code with
      | false => simp
      | true =>
        obtain ⟨b, some, -⟩ := hk hm
        simp [none] at some

/-- What it takes for an entry to win over the best so far and the entries that follow (R68): it is one of them, a candidate if it follows,
and none of them beats it. -/
structure Wins (code : List Byte) (entries : List (Nat × ItemEntry)) (best : Option (Nat × ItemEntry))
    (w : Nat × ItemEntry) : Prop where
  origin : best = some w ∨ (w ∈ entries ∧ w.2.matches code = true)
  unbeaten : ∀ p ∈ entries, p.2.matches code = true → p.2.beats w.2 = false
  best_unbeaten : ∀ b, best = some b → b.2.beats w.2 = false

theorem wins_of_lookupItem {code : List Byte} {entries : List (Nat × ItemEntry)} {best : Option (Nat × ItemEntry)}
    {w : Nat × ItemEntry} (h : lookupItem code entries best = some w) : Wins code entries best w := by
  induction entries generalizing best with
  | nil =>
    rw [lookupItem] at h
    refine ⟨.inl h, by simp, fun b hb => ?_⟩
    obtain rfl : b = w := Option.some.inj (hb.symm.trans h)
    exact not_beats_self _
  | cons p rest ih =>
    rcases lookupItem_cons code p rest best with ⟨step, hm, replaces⟩ | ⟨step, keeps⟩
    · obtain ⟨origin, unbeaten, first⟩ := ih (step ▸ h)
      have hp : p.2.beats w.2 = false := first p rfl
      refine ⟨.inr ?_, ?_, fun b hb => not_beats_trans (not_beats_of_beats (replaces b hb)) hp⟩
      · rcases origin with e | ⟨mem, cand⟩
        · obtain rfl := Option.some.inj e
          exact ⟨List.mem_cons_self, hm⟩
        · exact ⟨List.mem_cons_of_mem _ mem, cand⟩
      · exact List.forall_mem_cons.mpr ⟨fun _ => hp, unbeaten⟩
    · obtain ⟨origin, unbeaten, first⟩ := ih (step ▸ h)
      refine ⟨origin.imp_right fun ⟨mem, cand⟩ => ⟨List.mem_cons_of_mem _ mem, cand⟩, ?_, first⟩
      refine List.forall_mem_cons.mpr ⟨fun hm => ?_, unbeaten⟩
      obtain ⟨b, hb, loses⟩ := keeps hm
      exact not_beats_trans loses (first b hb)

/-- Settles O32: the check digit by the weighted sum of the digits before it, the winner by the order in which entries beat each other. -/
theorem checkDigitsAndTheWinningEntry : Obligations.CheckDigitsAndTheWinningEntry := by
  refine ⟨fun code h d hd => checkDigitOk_iff h hd, fun code entries => ⟨?_, fun i e h => ?_⟩⟩
  · simp [lookupItem_eq_none_iff]
  · obtain ⟨origin, unbeaten, -⟩ := wins_of_lookupItem h
    obtain ⟨mem, cand⟩ := origin.resolve_left (by simp)
    obtain ⟨length, leads⟩ := (matches_iff e code).mp cand
    exact ⟨mem, length, leads, fun p hp hl hpre =>
      (not_beats_iff p.2 e).mp (unbeaten p hp ((matches_iff p.2 code).mpr ⟨hl, hpre⟩))⟩

end Sys2Proof.Proofs.ItemLookup
end

section
/-! PROOF. Scanner intake: the assembly of code frames (R63, R64, R73, R74), and Hold Scanner with Release Scanner (R75). -/

namespace Sys2Proof.Proofs.ScannerAssembly

open Sys2Proof.Machine

/-! ## A character of the scanner line -/

/-- A row of the lane whose effect leaves the port alone: only an idle transmitter may begin its next frame. -/
theorem runs_portStands {i : Instr} {f : State → State} {s : State} (he : exec i s = run f s) (hs : s.powered = true)
    (hp : (f s).port = s.port) : Runs i s fun t => PortStands s t ∧ t = { f s with port := t.port } :=
  runs_of he hs fun _ same port => ⟨by rw [PortStands, port, hp], same.rest⟩

/-- SCANNER_CHARACTER is the taking of a character (R63). -/
theorem exec_scannerCharacter (data : Byte) (framing : Bool) (s : State) :
    exec (.scannerCharacter data framing) s = run (takeCharacter data framing) s := rfl

/-- SCAN_PROCESSING is the processing of a frame that waits (R73). -/
theorem exec_scanProcessing (s : State) : exec .scanProcessing s = run processWaitingScan s := rfl

/-- With the supply up an effect takes place, and then an idle transmitter begins its next frame (R181). -/
theorem run_powered {f : State → State} {s : State} (h : s.powered = true) : run f s = .next ((f s).modPort Port.startFrame) := by
  rw [run, if_pos h]

/-- A character that is no CR, or that has a framing error, joins the frame (R63). -/
theorem takeCharacter_joins {data : Byte} {framing : Bool} (h : data ≠ 0x0D ∨ framing = true) :
    takeCharacter data framing = addCharacter data framing := by
  funext s
  rw [takeCharacter, if_neg]
  rintro ⟨rfl, rfl⟩
  simp at h

/-- A CR without a framing error ends the frame (R63). -/
theorem takeCharacter_cr : takeCharacter 0x0D false = endCode := rfl

/-- The scanner is held while a hold reason stands (R74). -/
theorem clearToSend_eq_false_iff (b : Scan) :
    b.clearToSend = false ↔ b.holdHost = true ∨ b.holdReaction = true ∨ b.holdQueue = true := by
  simp only [Scan.clearToSend, Bool.not_eq_false', Bool.or_eq_true, or_assoc]

/-- The scanner may send exactly while no hold reason stands (R74). -/
theorem clearToSend_eq_true_iff (b : Scan) :
    b.clearToSend = true ↔ b.holdHost = false ∧ b.holdReaction = false ∧ b.holdQueue = false := by
  simp [Scan.clearToSend, and_assoc]

/-- The fault that a character brings, by the tests of R64 in their order (log 24). -/
theorem faultOf_eq (b : Scan) (data : Byte) (framing : Bool) :
    faultOf b data framing =
      if framing = true ∨ b.finished.isSome = true
          ∨ (b.count = 0 ∧ (b.holdHost = true ∨ b.holdReaction = true ∨ b.holdQueue = true)) then some .line
      else if data.toNat < 0x20 ∨ 0x7E < data.toNat then some .badChar
      else if b.count = 32 then some .long else none := by
  simp only [faultOf, ← clearToSend_eq_false_iff, Bool.or_eq_true, Bool.and_eq_true, beq_iff_eq, Bool.not_eq_true', or_assoc,
    decide_eq_true_eq]

/-- A character joins its frame, up to 32 of them kept, and brings it its first fault (R63, R64). -/
theorem addCharacter_eq (data : Byte) (framing : Bool) (s : State) :
    addCharacter data framing s = { s with scan := { s.scan with
      chars := if s.scan.chars.length < 32 then s.scan.chars ++ [data] else s.scan.chars
      count := s.scan.count + 1
      fault := if s.scan.fault.isSome = true then s.scan.fault else faultOf s.scan data framing } } := by
  cases h : s.scan.fault <;> simp [addCharacter, State.modScan, h]

/-! ## The end of a frame -/

/-- A CR with no frame in progress changes nothing (R63). -/
theorem endCode_noFrame {s : State} (h : s.scan.count = 0) : endCode s = s := if_pos h

/-- A frame with a fault is discarded and counted for it (R64). -/
theorem endCode_faulty {s : State} {f : ScanFault} (h : s.scan.count ≠ 0) (hf : s.scan.fault = some f) :
    endCode s = countDiscard f (s.modScan Scan.noFrame) := by
  simp [endCode, h, hf]

/-- A finished frame waits behind a full slot (R73). -/
theorem endCode_waits {s : State} (h : s.scan.count ≠ 0) (hf : s.scan.fault = none) (hs : s.scan.slot.isSome = true) :
    endCode s = (s.modScan Scan.noFrame).modScan fun b => { b with finished := some s.scan.chars } := by
  have full : s.scan.slot.isNone = false := by simpa [Option.isNone_eq_false_iff] using hs
  simp [endCode, h, hf, full]

/-- With the slot empty a finished frame is processed at once (R73). -/
theorem endCode_processes {s : State} (h : s.scan.count ≠ 0) (hf : s.scan.fault = none) (hs : s.scan.slot = none) :
    endCode s = processScan s.scan.chars (s.modScan Scan.noFrame) := by
  simp [endCode, h, hf, hs]

/-- The discard of a frame counts in the counter of its fault alone (R64). -/
theorem countDiscard_eq (f : ScanFault) (s : State) :
    countDiscard f s = { s with mgmt := { s.mgmt with counters := { s.mgmt.counters with
      discardLine := if f = .line then satInc s.mgmt.counters.discardLine else s.mgmt.counters.discardLine
      discardChar := if f = .badChar then satInc s.mgmt.counters.discardChar else s.mgmt.counters.discardChar
      discardLong := if f = .long then satInc s.mgmt.counters.discardLong else s.mgmt.counters.discardLong } } } := by
  cases f <;> rfl

/-- A frame that waits behind an empty slot is processed (R73). -/
theorem processWaitingScan_eq {s : State} {code : List Byte} (hf : s.scan.finished = some code) (hs : s.scan.slot = none) :
    processWaitingScan s = processScan code (s.modScan fun b => { b with finished := none }) := by
  simp [processWaitingScan, hf, hs]

/-- A frame processed at once is processed as one that waited (R73). -/
theorem endCode_eq_processWaitingScan {s : State} (h : s.scan.count ≠ 0) (hf : s.scan.fault = none)
    (hs : s.scan.slot = none) (hw : s.scan.finished = none) :
    endCode s = processWaitingScan
      { s with scan := { s.scan with chars := [], count := 0, finished := some s.scan.chars } } := by
  rw [endCode_processes h hf hs]
  refine .trans ?_ (processWaitingScan_eq (code := s.scan.chars) rfl (by exact hs)).symm
  simp [State.modScan, Scan.noFrame, hf, hw]

/-- Settles O33: a character joins the frame in progress, and a CR ends it in one of the four ways of its count, fault and slot. -/
theorem scannerCharactersFormFrames : Obligations.ScannerCharactersFormFrames := by
  intro data framing s hs
  refine ⟨?_, ?_, ?_, ?_, ?_⟩
  · rintro joins met rfl
    rw [← faultOf_eq]
    have added := runs_portStands (f := addCharacter data framing)
      ((exec_scannerCharacter data framing s).trans (by rw [takeCharacter_joins joins])) hs rfl
    rwa [addCharacter_eq] at added
  · intro h
    have stands := runs_portStands (exec_scannerCharacter 0x0D false s) hs (by rw [takeCharacter_cr, endCode_noFrame h])
    rwa [takeCharacter_cr, endCode_noFrame h] at stands
  · intro f h hf
    have counted := runs_portStands (exec_scannerCharacter 0x0D false s) hs
      (by rw [takeCharacter_cr, endCode_faulty h hf]; rfl)
    rwa [takeCharacter_cr, endCode_faulty h hf, countDiscard_eq] at counted
  · intro h hf full
    have kept := runs_portStands (exec_scannerCharacter 0x0D false s) hs
      (by rw [takeCharacter_cr, endCode_waits h hf full]; rfl)
    rw [takeCharacter_cr, endCode_waits h hf full] at kept
    simpa [State.modScan, Scan.noFrame, hf] using kept
  · intro h hf empty hw
    rw [exec_scannerCharacter, takeCharacter_cr, run_powered hs, endCode_eq_processWaitingScan h hf empty hw]
    exact (run_powered (f := processWaitingScan) (by exact hs)).symm

end Sys2Proof.Proofs.ScannerAssembly
end

section
/-! PROOF. Hold Scanner and Release Scanner (R74, R75). -/

namespace Sys2Proof.Proofs.ScannerHolds

open Sys2Proof.Machine

/-- The part with the hold reason HOST of the scanner as given (R75). -/
def withHost (held : Bool) (s : State) : State := s.modScan fun b => { b with holdHost := held }

theorem cmdHoldScanner_eq (s : State) : cmdHoldScanner s = (⟨.ok, .empty, .nothing⟩, withHost true s) := rfl

theorem cmdReleaseScanner_eq (s : State) : cmdReleaseScanner s = (⟨.ok, .empty, .nothing⟩, withHost false s) := rfl

/-- A scanner command of the host, performed: HOST is as it says, and only the port changes besides (R75). -/
theorem performs_withHost {i : Instr} {cmd : Command} {held : Bool} {s : State} {p : State → Prop} (hr : Ready s)
    (he : exec i s = runCommand (encodeFrame i) cmd s) (hc : ∀ u, cmd u = (⟨.ok, .empty, .nothing⟩, withHost held u))
    (hp : ∀ t : State, t.scan = { s.scan with holdHost := held } → p t) :
    Performs i s .ok .empty fun t => NoReport s t
      ∧ t = { s with port := t.port, scan := { s.scan with holdHost := held } } ∧ p t := by
  refine performs_of he hr (by rw [hc]) (by rw [hc]; exact .refl _) fun t ht => ?_
  rw [hc] at ht
  exact ⟨⟨ht.sending, ht.live, ht.scale, ht.drawer, ht.printer⟩, ht.rest, hp t (by rw [ht.rest]; rfl)⟩

/-- A change of the Scanner intake that leaves HOST alone, and that HOST leaves alone. -/
def SparesHost (f : State → State) : Prop :=
  ∃ g : Scan → Scan, f = State.modScan g ∧ ∀ b held, g { b with holdHost := held } = { g b with holdHost := held }

/-- The actions of the Reaction unit and the emptying of the slot act on reasons of their own (R74, R175). -/
theorem sparesHost_of_mem {f : State → State}
    (h : f ∈ [perform .holdScanner, perform .releaseScanner,
      fun x : State => { x with scan := { x.scan with slot := none, holdQueue := false } }]) : SparesHost f := by
  simp only [List.mem_cons, List.not_mem_nil, or_false] at h
  rcases h with rfl | rfl | rfl
  · exact ⟨fun b => { b with holdReaction := true }, rfl, fun _ _ => rfl⟩
  · exact ⟨fun b => { b with holdReaction := false }, rfl, fun _ _ => rfl⟩
  · exact ⟨fun b => { b with slot := none, holdQueue := false }, rfl, fun _ _ => rfl⟩

/-- A scanner command of the host gives the same before and after a change that spares HOST. -/
theorem exec_comm_of_sparesHost {f : State → State} (hf : SparesHost f) {i : Instr} {cmd : Command} {held : Bool} {s u t : State}
    (hr : Ready s) (he : ∀ s, exec i s = runCommand (encodeFrame i) cmd s)
    (hc : ∀ u, cmd u = (⟨.ok, .empty, .nothing⟩, withHost held u))
    (hu : exec i s = .next u) (ht : exec i (f s) = .next t) : t = f u := by
  obtain ⟨g, rfl, comm⟩ := hf
  rw [he, runCommand_ready _ _ hr, hc] at hu
  rw [he, runCommand_ready _ _ (by exact hr), hc] at ht
  obtain rfl := Host.Outcome.next.inj hu
  obtain rfl := Host.Outcome.next.inj ht
  refine State.eq_of rfl rfl rfl rfl rfl rfl rfl ?_ rfl rfl rfl rfl rfl rfl
  exact (comm s.scan held).symm

/-- Settles O14: both commands set HOST alone, and what acts on the other reasons spares it. -/
theorem holdAndReleaseScannerActOnHostAlone : Obligations.HoldAndReleaseScannerActOnHostAlone := by
  intro tag s hr
  refine ⟨?_, ?_, ?_, statusOf s, ?_, rfl⟩
  · exact performs_withHost hr rfl cmdHoldScanner_eq fun t ht => by rw [ht]; rfl
  · exact performs_withHost hr rfl cmdReleaseScanner_eq fun t ht => by
      rw [ht, ScannerAssembly.clearToSend_eq_true_iff]
      exact and_iff_right rfl
  · intro f mem u v t hu hv
    have spares := sparesHost_of_mem mem
    exact ⟨exec_comm_of_sparesHost spares hr (fun _ => rfl) cmdHoldScanner_eq hu,
      exec_comm_of_sparesHost spares hr (fun _ => rfl) cmdReleaseScanner_eq hv⟩
  · exact onlyAnswers_of rfl hr rfl

end Sys2Proof.Proofs.ScannerHolds
end

section
/-! PROOF. What the FULL reset and the LANE reset leave and keep (R76, R94, R182, R188, R189). -/

namespace Sys2Proof.Proofs.Resets

open Sys2Proof.Machine

/-! ## The transmitter when no report waits for a place -/

/-- A frame that has begun is in transmission: the transmitter does not begin another (R181). -/
theorem startFrame_startFrame (p : Port) : p.startFrame.startFrame = p.startFrame := by
  refine Port.startFrame_settled ?_
  unfold Port.startFrame
  split
  · next h => exact .inl (by simp [h])
  · split
    · exact .inl rfl
    · exact .inl rfl
    · next hr hq => exact .inr ⟨hr, hq⟩

/-- The transmitter takes nothing from the sources of reports (R181, R182). -/
theorem nothingWaits_startFrame (s : State) : nothingWaits (s.modPort Port.startFrame) = nothingWaits s := by
  unfold nothingWaits
  rw [State.modPort_port, Port.startFrame_eq]
  rfl

/-- A source that holds no report is no candidate (R182). -/
theorem takeCandidate_eq_none {s : State} (h : nothingWaits s = true) (k : Nat) : takeCandidate k s = none := by
  simp only [nothingWaits, Bool.and_eq_true, List.isEmpty_iff, Option.isNone_iff_eq_none] at h
  obtain ⟨⟨⟨⟨⟨⟨⟨⟨⟨outcomes, slot⟩, card⟩, sales⟩, drawer⟩, printer⟩, live⟩, scale⟩, drawerSlot⟩, printerSlot⟩ := h
  unfold takeCandidate
  split <;> simp [outcomes, slot, card, sales, drawer, printer, live, scale, drawerSlot, printerSlot]

/-- With no report waiting there is no candidate in the rotation (R182). -/
theorem firstCandidate_eq_none {s : State} (h : nothingWaits s = true) (l : List Nat) : firstCandidate s l = none := by
  induction l with
  | nil => rfl
  | cons k rest ih => rw [firstCandidate, takeCandidate_eq_none h, ih]

/-- With no report waiting a free place stays free (R182). -/
theorem admitReport_eq_self {s : State} (h : nothingWaits s = true) : admitReport s = s := by
  rw [admitReport, firstCandidate_eq_none h]
  exact ite_self s

/-- With no report waiting the end of a frame only begins the next (R181). -/
theorem takeNextFrame_eq {s : State} (h : nothingWaits s = true) : takeNextFrame s = s.modPort Port.startFrame := by
  rw [takeNextFrame, admitReport_eq_self ((nothingWaits_startFrame s).trans h)]
  exact ite_self _

/-- The part with its transmitter free. -/
def unsent (s : State) : State := s.modPort fun p => { p with tx := none }

/-- The end of a frame that leaves no report waiting: what the frame brings about, and then the next frame (R181). -/
theorem exec_frameTransmitEnd {s : State} {x : TxFrame} {levels : InputLevels} (hs : s.powered = true) (hx : s.port.tx = some x)
    (h : nothingWaits (frameLeft x levels (unsent s)) = true) :
    exec (.frameTransmitEnd levels) s = .next ((frameLeft x levels (unsent s)).modPort Port.startFrame) := by
  have ended : endFrame levels s = (frameLeft x levels (unsent s)).modPort Port.startFrame := by
    rw [endFrame, hx]
    exact takeNextFrame_eq h
  refine (ScannerAssembly.run_powered hs).trans ?_
  rw [ended, State.modPort, State.modPort_port, startFrame_startFrame]
  rfl

/-! ## The STATE reports of a reset -/

/-- A STATE report of a kind that is not queued joins the queue if a place is free and no report waits (R183). -/
theorem placeState_joins {k : StateKind} {r : Report} {slotFull : Bool} {intoSlot : Port → Port} {s : State}
    (queued : s.port.queues k = false) (slot : slotFull = false) (joins : joinsAtOnce s = true) :
    placeState k r slotFull intoSlot s = enqueue r s := by
  rw [placeState, queued, slot, joins]
  rfl

/-- Nothing is queued, and nothing waits to be: what a reset makes of the reports before it forms its own (R189). -/
def Silent (s : State) : Prop := s.port.reports = [] ∧ nothingWaits s = true

/-- The slot of a STATE kind is empty while a report formed now would join the queue (R182, R183). -/
theorem slots_of_joins {s : State} (h : joinsAtOnce s = true) :
    s.port.scaleSlot.isSome = false ∧ s.port.drawerSlot.isSome = false ∧ s.port.printerSlot.isSome = false := by
  simp only [joinsAtOnce, nothingWaits, Bool.and_eq_true, Option.isNone_iff_eq_none] at h
  obtain ⟨-, ⟨⟨-, scale⟩, drawer⟩, printer⟩ := h
  simp [scale, drawer, printer]

theorem formScaleState_joins {s : State} (queued : s.port.queues .scaleState = false) (joins : joinsAtOnce s = true) :
    formScaleState s = enqueue (.scaleState (scaleStateOf s)) s :=
  have ⟨slot, _, _⟩ := slots_of_joins joins
  placeState_joins queued slot joins

theorem formDrawerState_joins {s : State} (queued : s.port.queues .drawerState = false) (joins : joinsAtOnce s = true) :
    formDrawerState s = enqueue (.drawerState (drawerStateOf s)) s :=
  have ⟨_, slot, _⟩ := slots_of_joins joins
  placeState_joins queued slot joins

theorem formPrinterState_joins {s : State} (queued : s.port.queues .printerState = false) (joins : joinsAtOnce s = true) :
    formPrinterState s = enqueue (.printerState (printerStateOf s)) s :=
  have ⟨_, _, slot⟩ := slots_of_joins joins
  placeState_joins queued slot joins

/-- DRAWER_STATE and PRINTER_STATE join a queue that holds at most the SCALE_STATE of the same reset (R135, R156, log 9). -/
theorem formLaneStates_joins {s : State} (few : s.port.reports.length ≤ 1) (waits : nothingWaits s = true)
    (drawer : s.port.queues .drawerState = false) (printer : s.port.queues .printerState = false) :
    formPrinterState (formDrawerState s) = s.modPort fun p => { p with
      reports := p.reports ++ [.drawerState (drawerStateOf s), .printerState (printerStateOf s)] } := by
  have joins : joinsAtOnce s = true := by
    rw [joinsAtOnce, waits, Bool.and_true, Port.hasRoom, decide_eq_true_eq]
    omega
  have joins' : joinsAtOnce (enqueue (.drawerState (drawerStateOf s)) s) = true := by
    have waits' : nothingWaits (enqueue (.drawerState (drawerStateOf s)) s) = true := waits
    rw [joinsAtOnce, waits', Bool.and_true, Port.hasRoom, decide_eq_true_eq, enqueue, State.modPort_port, List.length_append]
    exact Nat.lt_of_le_of_lt (Nat.add_le_add_right few 1) (by decide)
  have printer' : (enqueue (.drawerState (drawerStateOf s)) s).port.queues .printerState = false := by
    simpa [Port.queues, enqueue, Report.stateKind] using printer
  rw [formDrawerState_joins drawer joins, formPrinterState_joins printer' joins']
  simp only [enqueue, State.modPort, List.append_assoc]
  rfl

/-- The reports of a LANE reset join an empty queue in their order (R135, R156, log 9). -/
theorem formLaneStates_eq {s : State} (h : Silent s) :
    formPrinterState (formDrawerState s)
      = s.modPort fun p => { p with reports := [.drawerState (drawerStateOf s), .printerState (printerStateOf s)] } := by
  obtain ⟨reports, waits⟩ := h
  rw [formLaneStates_joins (by simp [reports]) waits (by simp [Port.queues, reports]) (by simp [Port.queues, reports])]
  simp [State.modPort, reports]

/-- The reports of a FULL reset join an empty queue in their order (R16, R135, R156, log 9). -/
theorem formResetStates_eq {s : State} (h : Silent s) :
    formResetStates s = s.modPort fun p => { p with
      reports := [.scaleState (scaleStateOf s), .drawerState (drawerStateOf s), .printerState (printerStateOf s)] } := by
  obtain ⟨reports, waits⟩ := h
  have joins : joinsAtOnce s = true := by simp [joinsAtOnce, Port.hasRoom, reports, waits]
  have alone : (enqueue (.scaleState (scaleStateOf s)) s).port.reports = [.scaleState (scaleStateOf s)] := by
    simp [enqueue, reports]
  have rest := formLaneStates_joins (s := enqueue (.scaleState (scaleStateOf s)) s) (by simp [alone]) waits
    (by simp [Port.queues, alone, Report.stateKind]) (by simp [Port.queues, alone, Report.stateKind])
  rw [formResetStates, formScaleState_joins (by simp [Port.queues, reports]) joins, rest]
  simp only [enqueue, State.modPort, reports]
  rfl

/-! ## Power-on and the FULL reset -/

/-- A part with its SCALE_STATE report in transmission and its other STATE reports behind it (R16, R135, R156, R181). -/
def shown (s : State) : State :=
  s.modPort fun p => { p with
    tx := some (.report (.scaleState (scaleStateOf s)))
    reports := [.drawerState (drawerStateOf s), .printerState (printerStateOf s)] }

/-- Fresh blocks show their states (R16, R135, R156). -/
theorem startFrame_formResetStates (levels : InputLevels) (volts : Nat) (temp : Int) (cal : Option CalRecord) (s : State) :
    (formResetStates (freshBlocks levels volts temp cal s)).modPort Port.startFrame
      = shown (freshBlocks levels volts temp cal s) := by
  rw [formResetStates_eq ⟨rfl, rfl⟩]
  rfl

/-- Power-on leaves fresh blocks that show their states (R16, R29). -/
theorem exec_powerOn (levels : InputLevels) (volts : BitVec 16) (temp : Int) (s : State) :
    exec (.powerOn levels volts temp) s
      = .next (shown (freshBlocks levels volts.toNat temp (s.store.block.bind readImage)
          { s with
            powered := true, clock := ⟨0, 0, 0, true⟩
            store := ⟨s.store.block, s.store.block.bind readImage, none, levels.sealSwitch⟩ })) :=
  congrArg Host.Outcome.next (startFrame_formResetStates _ _ _ _ _)

/-- The part that a FULL reset leaves, before its reports (R189): fresh blocks, the swipe clock, the readings, the block and the operation
in flight standing (R29, R39, R77). -/
def fullyReset (levels : InputLevels) (cal : Option CalRecord) (s : State) : State :=
  freshBlocks levels s.supply.volts s.printer.temp cal
    { s with
      clock := ⟨0, 0, s.clock.swipeClock, true⟩
      store := { s.store with
        inFlight := s.store.inFlight.map fun op => { op with afterFull := true }
        sealSwitch := levels.sealSwitch } }

/-- The working calibration after a FULL reset is the image of the operation in flight, or else the copy (R29, R39). -/
theorem fullReset_eq {levels : InputLevels} {cal : Option CalRecord} {s : State}
    (flight : ∀ op, s.store.inFlight = some op → cal = some op.image) (copy : s.store.inFlight = none → cal = s.store.copy) :
    fullReset levels s = formResetStates (fullyReset levels cal s) := by
  cases h : s.store.inFlight with
  | none => rw [fullReset, h, copy h]; simp only [fullyReset, h]
  | some op => rw [fullReset, h, flight op h]; simp only [fullyReset, h]

/-- The end of the response to a FULL reset leaves fresh blocks that show their states (R189). -/
theorem exec_fullReset {levels : InputLevels} {s : State} {r : Response} {cal : Option CalRecord} (hs : s.powered = true)
    (hx : s.port.tx = some (.response r)) (hr : r.after = .fullReset)
    (flight : ∀ op, s.store.inFlight = some op → cal = some op.image) (copy : s.store.inFlight = none → cal = s.store.copy) :
    exec (.frameTransmitEnd levels) s = .next (shown (fullyReset levels cal s)) := by
  have left : frameLeft (.response r) levels (unsent s) = formResetStates (fullyReset levels cal s) := by
    rw [frameLeft, hr]
    exact fullReset_eq (s := unsent s) flight copy
  have silent : nothingWaits (formResetStates (fullyReset levels cal s)) = true := by
    rw [formResetStates_eq ⟨rfl, rfl⟩]
    rfl
  rw [exec_frameTransmitEnd hs hx (left ▸ silent), left]
  exact congrArg Host.Outcome.next (startFrame_formResetStates _ _ _ _ _)

/-! ## The LANE reset -/

/-- The part that a LANE reset leaves, before its reports (R189). -/
def laneCleared (levels : InputLevels) (s : State) : State :=
  { s with
    inputs := levels, port := s.port.laneReset, scale := laneScale s, scan := scanAtReset
    swipe := swipeAtReset s.clock.swipeClock s.swipe.counter
    sales := { Sales.fresh with nextSale := s.sales.nextSale, nextToken := s.sales.nextToken }
    drawer := .fresh levels.sense s.clock.laneTime
    printer := .fresh levels s.printer.temp
    supply := .fresh (s.supply.pendingBudget.getD s.supply.budget) s.supply.volts }

/-- A LANE reset leaves the part cleared, with its two STATE reports queued (R135, R156, R189). -/
theorem laneReset_eq (levels : InputLevels) (s : State) :
    laneReset levels s = (laneCleared levels s).modPort fun p => { p with
      reports := [.drawerState (drawerStateOf (laneCleared levels s)), .printerState (printerStateOf (laneCleared levels s))] } :=
  formLaneStates_eq (s := laneCleared levels s) ⟨rfl, rfl⟩

/-- LINK_BREAK is a LANE reset (R189). -/
theorem exec_linkBreak (levels : InputLevels) {s : State} (hs : s.powered = true) :
    exec (.linkBreak levels) s = .next ((laneReset levels s).modPort Port.startFrame) :=
  ScannerAssembly.run_powered hs

/-- The end of the response to a LANE reset is a break with the transmitter free (R189). -/
theorem exec_laneReset {levels : InputLevels} {s : State} {r : Response} (hs : s.powered = true)
    (hx : s.port.tx = some (.response r)) (hr : r.after = .laneReset) :
    exec (.frameTransmitEnd levels) s = exec (.linkBreak levels) (unsent s) := by
  have left : frameLeft (.response r) levels (unsent s) = laneReset levels (unsent s) := by
    rw [frameLeft, hr]
    rfl
  have silent : nothingWaits (laneReset levels (unsent s)) = true := by
    rw [laneReset_eq]
    rfl
  rw [exec_frameTransmitEnd hs hx (left ▸ silent), left, exec_linkBreak levels (s := unsent s) hs]

/-- What a LANE reset leaves of the Weighing engine (R3, R4, R27, R61): a pulse cut short starts the shock hold. -/
theorem laneScale_eq (s : State) :
    laneScale s = { s.scale with
      queue := [], outcomes := [], passedOver := none, liveMemory := none, liveWaits := true
      shockEnd := if s.supply.solGrant.isSome = true then some (s.clock.laneTime + 300) else s.scale.shockEnd
      disturbed := (laneScale s).disturbed } := by
  have shock : (if s.supply.solGrant.isSome then startShock s else s).scale = { s.scale with
      shockEnd := if s.supply.solGrant.isSome = true then some (s.clock.laneTime + 300) else s.scale.shockEnd } := by
    split <;> rfl
  have marked (u : State) : (if s.supply.noGrant then u else markDisturbed u).scale = { u.scale with
      disturbed := (if s.supply.noGrant then u else markDisturbed u).scale.disturbed } := by
    unfold markDisturbed
    split
    · rfl
    · split <;> rfl
  unfold laneScale
  dsimp only
  rw [marked, shock]

/-- A frame cut short leaves its remnant in transmission, and the reports queued (R189, log 15). -/
theorem startFrame_laneReset_cut {p : Port} {x : TxFrame} (h : p.tx = some x) (reports : List Report) :
    ({ p.laneReset with reports := reports } : Port).startFrame
      = { portAtReset with rate := p.rate, counters := p.counters, tx := some .remnant, reports := reports } := by
  rw [Port.laneReset, h]
  rfl

/-- A free transmitter takes the first report of the reset (R181, R189). -/
theorem startFrame_laneReset_free {p : Port} (h : p.tx = none) (q : Report) (rest : List Report) :
    ({ p.laneReset with reports := q :: rest } : Port).startFrame
      = { portAtReset with rate := p.rate, counters := p.counters, tx := some (.report q), reports := rest } := by
  rw [Port.laneReset, h]
  rfl

/-- The port after a LANE reset and the start of its next frame (R189): rate and counters stand, and of the rest only the frame in
transmission and the reports are not those before the reports of a power-on. -/
theorem startFrame_laneReset (p t : Port) (q : Report) (rest : List Report)
    (ht : t = ({ p.laneReset with reports := q :: rest } : Port).startFrame) :
    t = { portAtReset with rate := p.rate, counters := p.counters, tx := t.tx, reports := t.reports }
      ∧ (p.tx.isSome = true → t.tx = some .remnant ∧ t.reports = q :: rest)
      ∧ (p.tx = none → t.tx = some (.report q) ∧ t.reports = rest) := by
  cases h : p.tx with
  | none =>
    rw [startFrame_laneReset_free h] at ht
    subst ht
    simp
  | some x =>
    rw [startFrame_laneReset_cut h] at ht
    subst ht
    simp

/-- Settles O57: each reset is a literal of the state, from what the FULL reset shares with power-on and from the cleared part of the LANE
reset. -/
theorem resetsLeaveWhatTheyKeep : Obligations.ResetsLeaveWhatTheyKeep := by
  refine ⟨?_, fun levels s r => exec_laneReset, ?_⟩
  · intro levels s r cal hs hx hr flight copy
    refine ⟨_, exec_fullReset hs hx hr flight copy, rfl, fun volts v hv on => ?_⟩
    rw [exec_powerOn, hv] at on
    obtain rfl := Host.Outcome.next.inj on
    refine ⟨rfl, rfl, rfl, rfl, rfl, rfl, fun block => ?_⟩
    rw [block]
    exact ⟨rfl, rfl⟩
  · intro levels s hs
    refine ⟨_, exec_linkBreak levels hs, ?_⟩
    rw [laneReset_eq]
    obtain ⟨port, sends, free⟩ := startFrame_laneReset s.port _ (.drawerState (drawerStateOf (laneCleared levels s)))
      [.printerState (printerStateOf (laneCleared levels s))] rfl
    refine ⟨?_, sends, free, fun volts v on => ?_⟩
    · exact State.eq_of rfl rfl rfl port rfl (laneScale_eq s) rfl rfl rfl rfl rfl rfl rfl rfl
    · rw [exec_powerOn] at on
      obtain rfl := Host.Outcome.next.inj on
      exact ⟨rfl, rfl⟩

end Sys2Proof.Proofs.Resets
end

section
/-! PROOF. What the processing of a card record does (R93, R95, R102 to R104): the report that it offers, the event that it raises, and
the state on which it raises it. -/

namespace Sys2Proof.Proofs.CardProcessing

open Sys2Proof.Machine

/-! ## The report before its attachment (steps 1 to 5 of R95) -/

section Fields

variable (s : State) (c : CardRecord)

@[simp] theorem cardReportOf_outcome : (cardReportOf s c).outcome = c.outcome := by
  unfold cardReportOf; split <;> rfl

@[simp] theorem cardReportOf_attachment : (cardReportOf s c).attachment = .none := by
  unfold cardReportOf; split <;> rfl

@[simp] theorem cardReportOf_checkFailed :
    (cardReportOf s c).flags.checkFailed = ((cardReportOf s c).check == some false) := by
  unfold cardReportOf; split <;> rfl

variable {c}

theorem cardReportOf_check (h : c.outcome = .ok) : (cardReportOf s c).check = c.fields.account.map accountOk := by
  simp [cardReportOf, h]

theorem cardReportOf_cardClass (h : c.outcome = .ok) :
    (cardReportOf s c).cardClass = (classOf s.mgmt.cards (cardKey c.fields)).1 := by
  simp [cardReportOf, h]

theorem cardReportOf_profile (h : c.outcome = .ok) :
    (cardReportOf s c).profile = some ((classOf s.mgmt.cards (cardKey c.fields)).2,
      (maskOf s.mgmt.masks (classOf s.mgmt.cards (cardKey c.fields)).2).2) := by
  simp [cardReportOf, h]

theorem cardReportOf_fields (h : c.outcome = .ok) :
    (cardReportOf s c).fields
      = maskFields (maskOf s.mgmt.masks (classOf s.mgmt.cards (cardKey c.fields)).2).1 c.fields := by
  simp [cardReportOf, h]

theorem cardReportOf_fields_of_ne (h : c.outcome ≠ .ok) : (cardReportOf s c).fields = MaskedFields.none := by
  simp [cardReportOf, h]

end Fields

/-! ## The attachment (step 6 of R95) -/

/-- Everything that the attachment settles of a report (R102, R103): the other fields stand. -/
structure Attached (r q : CardReport) : Prop where
  eq : ∃ a i full replaced, q = { r with attachment := a, refIndex := i, flags := ⟨full, replaced, r.flags.checkFailed⟩ }

namespace Attached

theorem refl (r : CardReport) : Attached r r := ⟨_, _, _, _, rfl⟩

variable {r q : CardReport} (h : Attached r q)
include h

theorem outcome : q.outcome = r.outcome := by obtain ⟨_, _, _, _, rfl⟩ := h; rfl
theorem cardClass : q.cardClass = r.cardClass := by obtain ⟨_, _, _, _, rfl⟩ := h; rfl
theorem profile : q.profile = r.profile := by obtain ⟨_, _, _, _, rfl⟩ := h; rfl
theorem fields : q.fields = r.fields := by obtain ⟨_, _, _, _, rfl⟩ := h; rfl
theorem check : q.check = r.check := by obtain ⟨_, _, _, _, rfl⟩ := h; rfl
theorem checkFailed : q.flags.checkFailed = r.flags.checkFailed := by obtain ⟨_, _, _, _, rfl⟩ := h; rfl
theorem sound : q.sound = r.sound := by rw [CardReport.sound, CardReport.sound, h.outcome, h.check]

end Attached

theorem attachTo_attached (slot : Nat) (x : Sale) (r : CardReport) (s : State) : Attached r (attachTo slot x r s).1 := by
  unfold attachTo
  split
  iterate 3 · split <;> exact ⟨_, _, _, _, rfl⟩
  · exact ⟨_, _, _, _, rfl⟩
  · exact .refl r

theorem attach_attached (r : CardReport) (s : State) : Attached r (attach r s).1 := by
  unfold attach
  split
  · exact .refl r
  · split
    · exact attachTo_attached _ _ _ _
    · exact .refl r

/-- A record that is not sound attaches nothing (R102, R103). -/
theorem attach_of_not_sound {r : CardReport} (h : r.sound = false) (s : State) : attach r s = (r, s) := by
  simp [attach, h]

/-! ## What an event finds of a record -/

/-- The part with no record in the decode buffer, and with a Sale table as given: what the processing of a record has left when it raises
its event. -/
def withoutRecord (x : Sales) (s : State) : State :=
  { s with sales := x, swipe := { s.swipe with decodeBuffer := none } }

theorem attach_withoutRecord (r : CardReport) (s : State) :
    ∃ x, (attach r (s.modSwipe fun b => { b with decodeBuffer := none })).2 = withoutRecord x s := by
  have h := attach_touches r (s.modSwipe fun b => { b with decodeBuffer := none })
  refine ⟨(attach r (s.modSwipe fun b => { b with decodeBuffer := none })).2.sales, ?_⟩
  exact State.eq_of h.powered (h.clock (by decide)) (h.inputs (by decide)) (h.port (by decide)) (h.mgmt (by decide))
    (h.scale (by decide)) (h.store (by decide)) (h.scan (by decide)) (h.swipe (by decide)) rfl (h.drawer (by decide))
    (h.printer (by decide)) (h.supply (by decide)) h.pending

theorem setSwipeHolds_withoutRecord (host reaction : Bool) (x : Sales) (s : State) :
    setSwipeHolds host reaction (withoutRecord x s) = withoutRecord x (setSwipeHolds host reaction s) := by
  simp only [setSwipeHolds, apply_ite (withoutRecord x)]
  rfl

theorem perform_withoutRecord (a : Action) (x : Sales) (s : State) :
    perform a (withoutRecord x s) = withoutRecord x (perform a s) := by
  cases a with
  | holdSwipe => exact setSwipeHolds_withoutRecord _ _ _ _
  | releaseSwipe => exact setSwipeHolds_withoutRecord _ _ _ _
  | _ => rfl

/-- The reactions to an event see neither the decode buffer nor the Sale table (R171). -/
theorem raiseEvent_withoutRecord (e : SourceEvent) (x : Sales) (s : State) :
    raiseEvent e (withoutRecord x s) = withoutRecord x (raiseEvent e s) := by
  simp only [raiseEvent, apply_ite (withoutRecord x)]
  refine ite_congr rfl (fun _ => ?_) fun _ => rfl
  refine List.foldl_hom (withoutRecord x) fun t p => ?_
  split
  · exact perform_withoutRecord _ _ _
  · rfl

/-! ## The processing of a record -/

/-- The event of a record (R95): CARD_OK when the record is sound. -/
def cardEvent (r : CardReport) : SourceEvent := if r.sound then .cardOk else .cardError

theorem processWaitingCard_eq {s : State} {c : CardRecord} (hd : s.swipe.decodeBuffer = some c)
    (hr : s.swipe.reportBuffer = none) : processWaitingCard s = processCard c s := by
  simp [processWaitingCard, hd, hr]

/-- A record is processed (R95): its report, attached, is offered behind its event, and the Sale table is the one that was unless the
record is sound. -/
theorem processCard_eq (c : CardRecord) (s : State) :
    ∃ q x, Attached (cardReportOf s c) q ∧ ((cardReportOf s c).sound = false → q = cardReportOf s c ∧ x = s.sales)
      ∧ processCard c s = offerCard q (withoutRecord x (raiseEvent (cardEvent (cardReportOf s c)) s)) := by
  obtain ⟨x, hx⟩ := attach_withoutRecord (cardReportOf s c) s
  have attached := attach_attached (cardReportOf s c) (s.modSwipe fun b => { b with decodeBuffer := none })
  refine ⟨_, x, attached, fun hs => ?_, ?_⟩
  · rw [attach_of_not_sound hs] at hx ⊢
    exact ⟨rfl, (congrArg State.sales hx).symm⟩
  · simp only [processCard, attached.sound, hx, raiseEvent_withoutRecord]
    rfl

/-- What an event leaves of the CARD reports formed and not yet sent: all of them (R171). -/
theorem withoutRecord_raiseEvent_cardTrail (e : SourceEvent) (x : Sales) (s : State) :
    (withoutRecord x (raiseEvent e s)).cardTrail = s.cardTrail := by
  have reacts := raiseEvent_reacts e s
  obtain ⟨_, _, _, swipe⟩ := reacts.swipe
  have port : (raiseEvent e s).port = s.port := reacts.touches.port (by decide)
  simp [State.cardTrail, withoutRecord, swipe, port]

/-- CARD_PROCESSING with a record that waits behind an empty report buffer (R93, R95). -/
theorem runs_cardProcessing {s : State} {c : CardRecord} (hs : s.powered = true) (hd : s.swipe.decodeBuffer = some c)
    (hr : s.swipe.reportBuffer = none) {p : State → Prop}
    (hp : ∀ t q, t.cardTrail = s.cardTrail ++ [q] → Attached (cardReportOf s c) q →
      t.mgmt = (raiseEvent (cardEvent (cardReportOf s c)) s).mgmt →
      ((cardReportOf s c).sound = false → q = cardReportOf s c ∧ t.sales = s.sales) → p t) :
    Runs .cardProcessing s p := by
  refine runs_of (f := processWaitingCard) rfl hs fun t same _ => ?_
  rw [processWaitingCard_eq hd hr] at same
  obtain ⟨q, x, attached, unsound, eq⟩ := processCard_eq c s
  rw [eq] at same
  have offered := offerCard_touches q (withoutRecord x (raiseEvent (cardEvent (cardReportOf s c)) s))
  obtain ⟨_, _, _, swipe⟩ := (raiseEvent_reacts (cardEvent (cardReportOf s c)) s).swipe
  refine hp t q ?_ attached ?_ fun h => ?_
  · rw [← withoutRecord_raiseEvent_cardTrail (cardEvent (cardReportOf s c)) x s, ← offerCard_trail q _ ?_]
    · rw [State.cardTrail, same.sending, same.rest]; rfl
    · simp [withoutRecord, swipe, hr]
  · rw [same.rest]; exact offered.mgmt (by decide)
  · obtain ⟨hq, hx⟩ := unsound h
    refine ⟨hq, ?_⟩
    rw [same.rest, ← hx]; exact offered.sales (by decide)

end Sys2Proof.Proofs.CardProcessing
end

section
/-! PROOF. The account check (R96), and the class and mask profile of a card by its key (R98). -/

namespace Sys2Proof.Proofs.CardRules

open Sys2Proof.Machine Sys2Proof.Proofs.CardProcessing

/-! ## The account check (R96) -/

/-- The sum of the check, digit by digit: those whose place has the parity of the first doubled one are doubled. -/
theorem accountSum_eq (even : Bool) (ds : List Nat) :
    accountSum even ds
      = ((List.range ds.length).map fun k => if (k % 2 == 0) = even then doubled (ds.getD k 0) else ds.getD k 0).sum := by
  induction ds generalizing even with
  | nil => rfl
  | cons d rest ih =>
    have shift (k : Nat) : ((k + 1) % 2 == 0) = even ↔ (k % 2 == 0) = !even := by
      have : ((k + 1) % 2 == 0) = !(k % 2 == 0) := by
        rcases Nat.mod_two_eq_zero_or_one k with h | h <;> simp [Nat.add_mod, h]
      rw [this, Bool.not_eq_eq_eq_not]
    rw [accountSum, ih, List.length_cons, List.range_succ_eq_map, List.map_cons, List.sum_cons, List.map_map]
    simp only [Function.comp_def, Nat.succ_eq_add_one, shift, List.getD_cons_succ, List.getD_cons_zero]
    cases even <;> rfl

theorem accountOk_iff (a : List Nat) :
    accountOk a = true ↔ ((List.range a.length).map fun k => if k % 2 = 0 then a.reverse.getD k 0
      else if 9 < 2 * a.reverse.getD k 0 then 2 * a.reverse.getD k 0 - 9 else 2 * a.reverse.getD k 0).sum % 10 = 0 := by
  have place (k : Nat) : (if (k % 2 == 0) = false then doubled (a.reverse.getD k 0) else a.reverse.getD k 0)
      = if k % 2 = 0 then a.reverse.getD k 0 else doubled (a.reverse.getD k 0) := by
    by_cases h : k % 2 = 0 <;> simp [h]
  simp only [accountOk, beq_iff_eq, accountSum_eq, List.length_reverse, place]
  rfl

/-- A record of an account whose outcome is OK is sound exactly when the account passes the check (R102, R103). -/
theorem sound_cardReportOf (s : State) {c : CardRecord} (h : c.outcome = .ok) {a : List Nat} (ha : c.fields.account = some a) :
    (cardReportOf s c).sound = accountOk a := by
  rw [CardReport.sound, cardReportOf_outcome, cardReportOf_check s h, h, ha]
  cases check : accountOk a <;> simp [check]

/-! ## The key and the lookup (R98) -/

theorem decimal_eq (ds : List Nat) : decimal ds = ds.foldl (fun n d => 10 * n + d) 0 := by
  simp only [decimal, Nat.mul_comm]

theorem cardKey_of_account {f : CardFields} {a : List Nat} (h : f.account = some a) :
    cardKey f = some (decimal (a.take 6)) := by
  simp [cardKey, h]

theorem cardKey_of_no_account {f : CardFields} (ha : f.account = none) :
    cardKey f = f.number.bind fun n => if n.length < 6 then none else some (decimal (n.take 6)) := by
  cases hn : f.number with
  | none => simp [cardKey, ha, hn]
  | some n => by_cases h : n.length < 6 <;> simp [cardKey, ha, hn, h, Nat.le_of_not_lt, Nat.not_le_of_lt]

/-- The lookup passes over an entry whose range does not hold the key. -/
theorem not_inRange {k : Nat} {e : CardEntry} (h : k < e.low ∨ e.high < k) :
    ¬(decide (e.low ≤ k) && decide (k ≤ e.high)) = true := by
  simp only [Bool.and_eq_true, decide_eq_true_eq]
  omega

/-- The first entry whose range holds the key gives the class and the profile number (R98). -/
theorem classOf_first {table : Table CardEntry} {l rest : List (Nat × CardEntry)} {i k : Nat} {e : CardEntry}
    (ready : table.state = .ready) (split : table.entries = l ++ (i, e) :: rest) (low : e.low ≤ k) (high : k ≤ e.high)
    (before : ∀ p ∈ l, k < p.2.low ∨ p.2.high < k) : classOf table (some k) = (e.cardClass, e.profile) := by
  have found : table.entries.find? (fun p => p.2.low ≤ k && k ≤ p.2.high) = some (i, e) := by
    rw [split, List.find?_append, List.find?_eq_none.mpr, Option.none_or, List.find?_cons_of_pos]
    · simp [low, high]
    · exact fun p hp => not_inRange (before p hp)
  simp [classOf, ready, found]

/-- Without a READY table, without a key, or with a key in no range the class is UNKNOWN and the profile number 0 (R98). -/
theorem classOf_unknown {table : Table CardEntry} {key : Option Nat}
    (h : table.state ≠ .ready ∨ key = none ∨ ∃ k, key = some k ∧ ∀ p ∈ table.entries, k < p.2.low ∨ p.2.high < k) :
    classOf table key = (.unknown, 0) := by
  rcases h with h | rfl | ⟨k, rfl, outside⟩
  · cases key <;> simp [classOf, h]
  · rfl
  · have lost : table.entries.find? (fun p => p.2.low ≤ k && k ≤ p.2.high) = none :=
      List.find?_eq_none.mpr fun p hp => not_inRange (outside p hp)
    simp [classOf, lost]

/-- The CARD report of a record whose outcome is OK has the class and the profile number of its key (R98, R104). -/
theorem runs_cardClass {s : State} {c : CardRecord} (hs : s.powered = true) (hd : s.swipe.decodeBuffer = some c)
    (hr : s.swipe.reportBuffer = none) (ok : c.outcome = .ok) {cls : CardClass} {n : Nat}
    (h : classOf s.mgmt.cards (cardKey c.fields) = (cls, n)) :
    Runs .cardProcessing s fun t => ∃ r, t.cardTrail = s.cardTrail ++ [r] ∧ r.cardClass = cls
      ∧ r.profile.map Prod.fst = some n := by
  refine runs_cardProcessing hs hd hr fun t q trail attached _ _ => ⟨q, trail, ?_, ?_⟩
  · rw [attached.cardClass, cardReportOf_cardClass s ok, h]
  · rw [attached.profile, cardReportOf_profile s ok, h]
    rfl

/-- Settles O37: the check by the sum over the places of an account, class and profile number by the first range that holds the key. -/
theorem theAccountCheckAndTheCardClass : Obligations.TheAccountCheckAndTheCardClass := by
  refine ⟨fun s c hs hd hr ok => ⟨fun noAccount => ?_, fun a passes ha hp => ?_⟩, fun s c hs hd hr ok key ofAccount ofNumber => ?_⟩
  · refine runs_cardProcessing hs hd hr fun t q trail attached _ _ => ⟨q, trail, ?_⟩
    rw [attached.check, cardReportOf_check s ok, noAccount]
    rfl
  · rw [← accountOk_iff] at hp
    have check : (cardReportOf s c).check = some (accountOk a) := by rw [cardReportOf_check s ok, ha]; rfl
    have sound : (cardReportOf s c).sound = accountOk a := sound_cardReportOf s ok ha
    refine runs_cardProcessing hs hd hr fun t q trail attached mgmt unsound =>
      ⟨q, trail, by rw [attached.outcome, cardReportOf_outcome, ok], fun pass => ?_, fun fail => ?_⟩
    · have good : accountOk a = true := hp.mp pass
      rw [good] at check sound
      refine ⟨attached.check.trans check, ?_, by rw [mgmt, cardEvent, if_pos sound]⟩
      rw [attached.checkFailed, cardReportOf_checkFailed, check]
      rfl
    · have bad : accountOk a = false := Bool.eq_false_iff.mpr (mt hp.mpr fail)
      rw [bad] at check sound
      obtain ⟨rfl, sales⟩ := unsound sound
      refine ⟨check, ?_, cardReportOf_attachment s c, sales, by rw [mgmt, cardEvent, sound]; rfl⟩
      rw [cardReportOf_checkFailed, check]
      rfl
  · have hkey : cardKey c.fields = key := by
      cases ha : c.fields.account with
      | some a => rw [cardKey_of_account ha, ofAccount a ha, decimal_eq]
      | none =>
        rw [cardKey_of_no_account ha, ofNumber ha]
        cases c.fields.number <;> simp [decimal_eq]
    refine ⟨fun l rest i k e ready hk split low high before => ?_, fun h => ?_⟩
    · exact runs_cardClass hs hd hr ok (by rw [hkey, hk, classOf_first ready split low high before])
    · exact runs_cardClass hs hd hr ok (by rw [hkey, classOf_unknown h])

end Sys2Proof.Proofs.CardRules
end

section
/-! PROOF. Masking: what a profile keeps of a card's digits, and that the rest leaves no trace (R99 to R101, R104). -/

namespace Sys2Proof.Proofs.CardMasking

open Sys2Proof.Machine Sys2Proof.Proofs.CardProcessing

/-! ## The keep rule (R100) -/

section KeepRule

variable (first last : Nat) (digits : List Nat)

@[simp] theorem length_maskDigits : (maskDigits first last digits).length = digits.length := by
  simp only [maskDigits, List.length_append, List.length_map, List.length_take, List.length_replicate, List.length_drop]
  omega

/-- A place of a masked field is clear exactly among the first and the last digits. -/
theorem getElem?_maskDigits {i : Nat} (h : i < digits.length) :
    (maskDigits first last digits)[i]? =
      some (if i < first ∨ digits.length - min last (digits.length - min first digits.length) ≤ i then digits[i]? else none) := by
  have head : ((digits.take (min first digits.length)).map some).length = min first digits.length := by simp
  by_cases hfirst : i < first
  · rw [maskDigits, List.append_assoc, List.getElem?_append_left (by omega), List.getElem?_map,
      List.getElem?_take_of_lt (by omega), if_pos (.inl hfirst), List.getElem?_eq_getElem h, Option.map_some]
  · by_cases hlast : digits.length - min last (digits.length - min first digits.length) ≤ i
    · rw [maskDigits, List.getElem?_append_right (by simp; omega), List.getElem?_map, List.getElem?_drop, if_pos (.inr hlast)]
      simp only [List.length_append, head, List.length_replicate]
      rw [Nat.add_sub_cancel' (by omega), List.getElem?_eq_getElem h, Option.map_some]
    · rw [maskDigits, List.append_assoc, List.getElem?_append_right (by omega), head,
        List.getElem?_append_left (by simp; omega), List.getElem?_replicate, if_pos (by omega), if_neg (by simp [hfirst, hlast])]

theorem countP_maskDigits : (maskDigits first last digits).countP Option.isSome ≤ first + last := by
  have clear (ds : List Nat) : (ds.map some).countP Option.isSome = ds.length := by simp [List.countP_map]
  have marks (n : Nat) : (List.replicate n (none : Option Nat)).countP Option.isSome = 0 := by simp [List.countP_replicate]
  simp only [maskDigits, List.countP_append, clear, marks, List.length_take, List.length_drop]
  omega

end KeepRule

/-- Two fields of the same length with the same kept digits are masked alike. -/
theorem maskDigits_congr {first last : Nat} {a b : List Nat} (length : a.length = b.length)
    (head : a.take first = b.take first) (tail : a.drop (a.length - last) = b.drop (b.length - last)) :
    maskDigits first last a = maskDigits first last b := by
  refine List.ext_getElem? fun i => ?_
  by_cases h : i < b.length
  · rw [getElem?_maskDigits _ _ _ (length ▸ h), getElem?_maskDigits _ _ _ h, length]
    congr 1
    refine ite_congr rfl (fun kept => ?_) fun _ => rfl
    rcases kept with hfirst | hlast
    · rw [← List.getElem?_take_of_lt hfirst, head, List.getElem?_take_of_lt hfirst]
    · have behind : b.length - last + (i - (b.length - last)) = i := by omega
      have := congrArg (fun l => l[i - (b.length - last)]?) tail
      rwa [length, List.getElem?_drop, List.getElem?_drop, behind] at this
  · rw [List.getElem?_eq_none (by simp [length]; omega), List.getElem?_eq_none (by simp; omega)]

/-! ## The profile applied (R99) -/

theorem mem_entries_of_at? {E : Type} {table : Table E} {i : Nat} {e : E} (h : table.at? i = some e) :
    ∃ p ∈ table.entries, p.2 = e := by
  obtain ⟨p, found, value⟩ := Option.map_eq_some_iff.mp h
  exact ⟨p, List.mem_of_find?_eq_some found, value⟩

/-- The profile applied is the entry at its number in a READY table, and otherwise the fixed default (R99). -/
theorem maskOf_eq {table : Table MaskEntry} {n : Nat} {m : MaskEntry} {fixed : Bool}
    (entry : ∀ e, table.state = .ready → table.at? n = some e → m = e ∧ fixed = false)
    (other : table.state ≠ .ready ∨ table.at? n = none → m = defaultMask ∧ fixed = true) :
    maskOf table n = (m, fixed) := by
  by_cases ready : table.state = .ready
  · cases he : table.at? n with
    | some e =>
      obtain ⟨rfl, rfl⟩ := entry e ready he
      simp [maskOf, ready, he]
    | none =>
      obtain ⟨rfl, rfl⟩ := other (.inr he)
      simp [maskOf, ready, he]
  · obtain ⟨rfl, rfl⟩ := other (.inl ready)
    simp [maskOf, ready]

/-- No profile applied keeps more than ten digits, the fixed default among them (R99). -/
theorem maskOf_keeps_le {table : Table MaskEntry} (h : ∀ p ∈ table.entries, p.2.keepFirst + p.2.keepLast ≤ 10) (n : Nat) :
    (maskOf table n).1.keepFirst + (maskOf table n).1.keepLast ≤ 10 := by
  unfold maskOf
  split
  · split
    · next e he =>
      obtain ⟨p, mem, rfl⟩ := mem_entries_of_at? he
      exact h p mem
    · decide
  · decide

/-- No ACCOUNT of a CARD report shows more than ten clear digits (R99, R100). -/
theorem countP_account_le {s : State} {c : CardRecord} {m : Masked}
    (h : ∀ p ∈ s.mgmt.masks.entries, p.2.keepFirst + p.2.keepLast ≤ 10) (hm : (cardReportOf s c).fields.account = some m) :
    m.countP Option.isSome ≤ 10 := by
  by_cases ok : c.outcome = .ok
  · rw [cardReportOf_fields s ok] at hm
    obtain ⟨a, -, rfl⟩ := Option.map_eq_some_iff.mp hm
    exact Nat.le_trans (countP_maskDigits _ _ a) (maskOf_keeps_le h _)
  · rw [cardReportOf_fields_of_ne s ok] at hm
    cases hm

/-- The CARD report of a record whose outcome is OK holds its fields as the profile of its number gives them (R100, R104). -/
theorem runs_maskedFields {s : State} {c : CardRecord} (hs : s.powered = true) (hd : s.swipe.decodeBuffer = some c)
    (hr : s.swipe.reportBuffer = none) (ok : c.outcome = .ok) :
    Runs .cardProcessing s fun t => ∃ r n, t.cardTrail = s.cardTrail ++ [r]
      ∧ r.profile = some (n, (maskOf s.mgmt.masks n).2) ∧ r.fields = maskFields (maskOf s.mgmt.masks n).1 c.fields :=
  runs_cardProcessing hs hd hr fun _ q trail attached _ _ =>
    ⟨q, _, trail, attached.profile.trans (cardReportOf_profile s ok), attached.fields.trans (cardReportOf_fields s ok)⟩

/-! ## What is masked leaves no trace (R101) -/

/-- Of its fields a report holds what their key, their check and their masking give. -/
theorem cardReportOf_congr {s : State} {c : CardRecord} {f g : CardFields} (key : cardKey f = cardKey g)
    (check : f.account.map accountOk = g.account.map accountOk)
    (masked : maskFields (maskOf s.mgmt.masks (classOf s.mgmt.cards (cardKey f)).2).1 f
      = maskFields (maskOf s.mgmt.masks (classOf s.mgmt.cards (cardKey f)).2).1 g) :
    cardReportOf s { c with fields := f } = cardReportOf s { c with fields := g } := by
  simp only [cardReportOf, ← key, check, masked]

/-- Two accounts of the same length, with the same key, kept digits and result of the check, give the same report (R101). -/
theorem cardReportOf_account_congr {s : State} {c : CardRecord} {a b : List Nat} {m : MaskEntry}
    (hm : m = (maskOf s.mgmt.masks (classOf s.mgmt.cards (some (decimal (a.take 6)))).2).1) (length : a.length = b.length)
    (head : a.take (max 6 m.keepFirst) = b.take (max 6 m.keepFirst))
    (tail : a.drop (a.length - m.keepLast) = b.drop (b.length - m.keepLast)) (check : accountOk a = accountOk b) :
    cardReportOf s { c with fields := { c.fields with account := some a } }
      = cardReportOf s { c with fields := { c.fields with account := some b } } := by
  have first (k : Nat) (hk : k ≤ max 6 m.keepFirst) : a.take k = b.take k := by
    have shorter := congrArg (List.take k) head
    rwa [List.take_take, List.take_take, Nat.min_eq_left hk] at shorter
  have key (x : List Nat) : cardKey { c.fields with account := some x } = some (decimal (x.take 6)) :=
    CardRules.cardKey_of_account rfl
  refine cardReportOf_congr ?_ (congrArg some check) ?_
  · rw [key, key, first 6 (Nat.le_max_left ..)]
  · rw [key, ← hm]
    simp only [maskFields, Option.map_some, maskDigits_congr length (first _ (Nat.le_max_right ..)) tail]

/-- The part with a record in the decode buffer. -/
def withRecord (c : CardRecord) (s : State) : State := { s with swipe := { s.swipe with decodeBuffer := some c } }

/-- Two records with the same report leave the part in the same state: the record itself is discarded (R95). -/
theorem exec_cardProcessing_congr {s : State} {c d : CardRecord} (hs : s.powered = true) (hr : s.swipe.reportBuffer = none)
    (same : cardReportOf s c = cardReportOf s d) :
    exec .cardProcessing (withRecord c s) = exec .cardProcessing (withRecord d s) := by
  have processed : processCard c (withRecord c s) = processCard d (withRecord d s) := by
    have report (e f : CardRecord) : cardReportOf (withRecord e s) f = cardReportOf s f := rfl
    rw [processCard, processCard, report, report, same]
    rfl
  have row (e : CardRecord) : exec .cardProcessing (withRecord e s)
      = .next ((processCard e (withRecord e s)).modPort Port.startFrame) := by
    rw [← processWaitingCard_eq (by exact rfl) (by exact hr)]
    exact ScannerAssembly.run_powered (by exact hs)
  rw [row, row, processed]

/-- Settles O38: the keep rule place by place, the fields of the report under its profile, and the report of two records that their profile
masks alike. -/
theorem maskingKeepsOnlyTheEndsAndLeavesNoTrace : Obligations.MaskingKeepsOnlyTheEndsAndLeavesNoTrace := by
  refine ⟨⟨fun first last digits => ⟨length_maskDigits .., fun _ => getElem?_maskDigits _ _ _, countP_maskDigits ..⟩,
    fun s c m => countP_account_le, fun s c hs hd hr ok => ?_⟩, ?_⟩
  · obtain ⟨t, step, r, n, trail, profile, fields⟩ := runs_maskedFields hs hd hr ok
    refine ⟨t, step, r, n, trail, by rw [profile]; rfl, fun m fixed clear keep entry other hclear hkeep => ?_⟩
    obtain rfl : clear = clearDigits := funext hclear
    obtain rfl : keep = maskDigits m.keepFirst m.keepLast := funext hkeep
    rw [maskOf_eq entry other] at profile fields
    rw [fields]
    refine ⟨profile, rfl, ?_, rfl, rfl, rfl⟩
    cases h : m.numberClear <;> simp [maskFields, h]
  · intro s c a b m hs hr hm length head tail check
    exact exec_cardProcessing_congr hs hr (cardReportOf_account_congr hm length head tail check)

end Sys2Proof.Proofs.CardMasking
end
